-- ==== Sys2Proof/Word.lean ====
section
/-! DEFINITION. The word types of the PPU raster engine (spec/10_state.md, spec/20_memory.md R70) and the type of a
memory held as plain data. -/

namespace Sys2Proof

/-- One byte: what every access but a frame-buffer write moves (R70). -/
abbrev Byte := BitVec 8

/-- The width of `v` and `t` (R22, R23). -/
abbrev VReg := BitVec 15

/-- An address of the video address space (R70). -/
abbrev VAddr := BitVec 14

/-- The raster counters `ly` and `lx` (R30), and the selector of format DOT (R112). -/
abbrev Dot := BitVec 9

/-- A frame-buffer pixel (R47, R318). -/
abbrev Pixel := BitVec 9

/-- A port transaction word (R110). -/
abbrev PortWord := BitVec 12

/-- A memory of `n`-bit cells: (key, value) pairs, keys strictly rising, no value 0, a key not listed reads 0
(`Memory.wf`, `Memory.read`). `Memory 8` is a list of `Host.Cell`. -/
abbrev Memory (n : Nat) := List (Nat × BitVec n)

end Sys2Proof
end

