-- ==== Sys2Proof/Syntax.lean ====
section
/-! DEFINITION. The instructions: one constructor per row of spec/opcode_table.json (spec/30_encoding.md R113, R117). A
write carries its data byte, EVAL its sprite number, SPLF and SPHF their slot, PIXEL its column; nothing else is an
operand (R140 to R147: "Operands: none"; log entry 14). -/

namespace Sys2Proof

/-- The 18 port transactions (R113) and the 29 raster micro-operations (R117), in the table's order. -/
inductive Instr where
  /-- R0, read Control (R140). -/
  | r0
  /-- R1, read Mask (R141). -/
  | r1
  /-- R2, read Status (R142). -/
  | r2
  /-- R3, read OAM Address (R143). -/
  | r3
  /-- R4, read OAM Data (R144). -/
  | r4
  /-- R5, read Scroll (R145). -/
  | r5
  /-- R6, read Address (R146). -/
  | r6
  /-- R7, read Data (R147). -/
  | r7
  /-- W0, write Control (R161). -/
  | w0 (d : Byte)
  /-- W1, write Mask (R162). -/
  | w1 (d : Byte)
  /-- W2, write Status, ignored (R163). -/
  | w2 (d : Byte)
  /-- W3, write OAM Address (R164). -/
  | w3 (d : Byte)
  /-- W4, write OAM Data (R165). -/
  | w4 (d : Byte)
  /-- W5a, first write of Scroll (R166). -/
  | w5a (d : Byte)
  /-- W5b, second write of Scroll (R167). -/
  | w5b (d : Byte)
  /-- W6a, first write of Address (R168). -/
  | w6a (d : Byte)
  /-- W6b, second write of Address (R169). -/
  | w6b (d : Byte)
  /-- W7, write Data (R170). -/
  | w7 (d : Byte)
  /-- SYNCCHK (R247). -/
  | syncchk
  /-- LS241 (R240). -/
  | ls241
  /-- LS261 (R241). -/
  | ls261
  /-- PREFILL (R211). -/
  | prefill
  /-- NTF (R271). -/
  | ntf
  /-- ATF (R272). -/
  | atf
  /-- PLF (R274). -/
  | plf
  /-- PHF (R275). -/
  | phf
  /-- PIXEL of column `col` = `lx` (R310). -/
  | pixel (col : BitVec 8)
  /-- EVAL of sprite `n` = `lx >> 2` (R213). -/
  | eval (n : BitVec 6)
  /-- RELOAD (R276). -/
  | reload
  /-- INCX (R195). -/
  | incx
  /-- INCY (R196). -/
  | incy
  /-- BANKCOPY (R216). -/
  | bankcopy
  /-- COPYH (R197). -/
  | copyh
  /-- COPYV (R198). -/
  | copyv
  /-- SNTF (R295). -/
  | sntf
  /-- SATF (R295). -/
  | satf
  /-- SPLF of slot `slot` = `lx[5:3]` (R296). -/
  | splf (slot : BitVec 3)
  /-- SPHF of slot `slot` = `lx[5:3]` (R297). -/
  | sphf (slot : BitVec 3)
  /-- PNTF (R271). -/
  | pntf
  /-- PATF (R272). -/
  | patf
  /-- PPLF (R274). -/
  | pplf
  /-- PPHF (R275). -/
  | pphf
  /-- PRELOAD (R276). -/
  | preload
  /-- PINCX (R195). -/
  | pincx
  /-- IDLEF1 (R277). -/
  | idlef1
  /-- IDLEF2 (R277). -/
  | idlef2
  /-- ADVANCE (R242). -/
  | advance
  deriving DecidableEq, Repr

/-- The classes of a scanline (R112, R230). -/
inductive LineClass where
  | visible
  | postRender
  | preRender
  deriving DecidableEq, Repr

/-- What selects instructions: a port transaction word (format PORT, R110), or the raster position (format DOT, R112). -/
inductive Selector where
  | port (word : PortWord)
  | dot (ly lx : Dot)
  deriving DecidableEq, Repr

/-- What may stand in a gap (R7, R370): one port transaction, or the reset event. -/
inductive GapAction where
  | transaction (word : PortWord)
  | reset
  deriving DecidableEq, Repr

end Sys2Proof
end

