-- ==== Sys2Proof/WellFormed.lean ====
section
/-! DEFINITION. Which terms are well-formed. Every operand of an instruction has exactly the width its encoding gives it, and
"any data value" is accepted (spec/30_encoding.md R116), so every instruction is well-formed by its type; what can be
ill-formed is a raster position (R30) and a number that should be a word (R110, R112). -/

namespace Sys2Proof

/-- R116: no transaction is illegal, no field has an illegal value, and the operands of the micro-operations are fields of
`lx` with every value of their width (R117). -/
abbrev Instr.WellFormed (_ : Instr) : Prop := True

/-- `ly` is 0 to 261 (R30). -/
def lineInRange (ly : Dot) : Bool := decide (ly.toNat ≤ 261)

/-- `lx` is 0 to 340 (R30). -/
def dotInRange (lx : Dot) : Bool := decide (lx.toNat ≤ 340)

/-- A selector is well-formed when its raster position exists; every 12-bit word is a transaction (R113). -/
def Selector.wellFormed : Selector → Bool
  | .port _ => true
  | .dot ly lx => lineInRange ly && dotInRange lx

/-- A number is a PORT word when it has 12 bits (R110). -/
def fitsPortWord (n : Nat) : Bool := decide (n < 4096)

/-- A number is a DOT selector when it has 9 bits (R112). -/
def fitsDotWord (n : Nat) : Bool := decide (n < 512)

end Sys2Proof
end

