-- ==== Sys2Proof/Decode.lean ====
section
/-! DEFINITION. Decoding and encoding (spec/30_encoding.md). Format PORT: a 12-bit word and the state bit `w` give one
transaction (R113, R115). Format DOT: a raster position gives the list of micro-operations it selects, in the order of
spec/44_raster_state_machine.md R231. -/

namespace Sys2Proof

/-! ### Format PORT -/

/-- R110 and R111: the word of a CPU access; the port is the low 3 bits of the CPU address. -/
def portWord (write : Bool) (address : Nat) (d : Byte) : PortWord :=
  BitVec.ofBool write ++ BitVec.ofNat 3 address ++ d

/-- Bit 11 of the word: 1 is a write (R110). -/
def PortWord.isWrite (word : PortWord) : Bool := word.getLsbD 11

/-- Bits 10:8 of the word (R110). -/
def PortWord.portField (word : PortWord) : BitVec 3 := word.extractLsb' 8 3

/-- Bits 7:0 of the word (R110). -/
def PortWord.dataField (word : PortWord) : Byte := word.extractLsb' 0 8

/-- R113: the transaction of a read word; its data field is ignored. -/
def decodeRead (port : BitVec 3) : Instr :=
  match port.toNat with
  | 0 => .r0
  | 1 => .r1
  | 2 => .r2
  | 3 => .r3
  | 4 => .r4
  | 5 => .r5
  | 6 => .r6
  | _ => .r7

/-- R113 and R115: the transaction of a write word; `w` tells the two phases of ports 5 and 6 apart. -/
def decodeWrite (w : Bool) (port : BitVec 3) (d : Byte) : Instr :=
  match port.toNat with
  | 0 => .w0 d
  | 1 => .w1 d
  | 2 => .w2 d
  | 3 => .w3 d
  | 4 => .w4 d
  | 5 => if w then .w5b d else .w5a d
  | 6 => if w then .w6b d else .w6a d
  | _ => .w7 d

/-- R113: every 12-bit word is a transaction; there is no unassigned pattern. -/
def decodePort (w : Bool) (word : PortWord) : Instr :=
  if PortWord.isWrite word then decodeWrite w (PortWord.portField word) (PortWord.dataField word)
  else decodeRead (PortWord.portField word)

/-! ### Format DOT -/

/-- R112: the class of a scanline. Out of range (`ly` above 261, which no step reaches, log entry 9) counts as class B,
since R231 tests "ly <= 239 or ly = 261". -/
def lineClass (ly : Dot) : LineClass :=
  if ly.toNat ≤ 239 then .visible else if ly = 261#9 then .preRender else .postRender

/-- "Rendering line" means class V or P (R112). -/
def isRenderingLine (ly : Dot) : Bool := lineClass ly != .postRender

/-- The class sets of R117 that occur: V B P, B, P, V P, V. -/
inductive ClassSet where
  | vbp
  | b
  | p
  | vp
  | v
  deriving DecidableEq, Repr

/-- Is a class in a class set? -/
def classIn (set : ClassSet) (c : LineClass) : Bool :=
  match set, c with
  | .vbp, _ => true
  | .b, .postRender => true
  | .p, .preRender => true
  | .vp, .visible => true
  | .vp, .preRender => true
  | .v, .visible => true
  | _, _ => false

/-- One row of R117: class set, exact line where the row's condition names one, match and mask over `lx`, and the
micro-operation with the operand it takes from `lx`. The condition `rendering` is no part of the selection: it is
evaluated when the micro-operation executes (R117), in its meaning. -/
structure DotRow where
  classes : ClassSet
  line : Option Dot
  mask : Dot
  pattern : Dot
  build : Dot → Instr

/-- R112: the row is selected when the class is in its class set and `(lx & mask) = match`. -/
def dotSelects (r : DotRow) (ly lx : Dot) : Bool :=
  classIn r.classes (lineClass ly) && (r.line == none || r.line == some ly) && (lx &&& r.mask == r.pattern)

/-- The micro-operations of the top of a scanline (R231 step 1). -/
def dotRowsLineStart : List DotRow :=
  [{ classes := .vbp, line := none, mask := 0x1FF#9, pattern := 0x000#9, build := fun _ => .syncchk },
   { classes := .b, line := some 241#9, mask := 0x1FF#9, pattern := 0x000#9, build := fun _ => .ls241 },
   { classes := .p, line := none, mask := 0x1FF#9, pattern := 0x000#9, build := fun _ => .ls261 }]

/-- The position-triggered transfers (R231 step 2a). -/
def dotRowsTransfer : List DotRow :=
  [{ classes := .vp, line := none, mask := 0x1FF#9, pattern := 0x000#9, build := fun _ => .prefill },
   { classes := .vp, line := none, mask := 0x1FF#9, pattern := 0x100#9, build := fun _ => .bankcopy },
   { classes := .vp, line := none, mask := 0x1FF#9, pattern := 0x101#9, build := fun _ => .copyh },
   { classes := .p, line := none, mask := 0x1FF#9, pattern := 0x130#9, build := fun _ => .copyv }]

/-- The memory accesses (R231 step 2b). -/
def dotRowsFetch : List DotRow :=
  [{ classes := .vp, line := none, mask := 0x107#9, pattern := 0x000#9, build := fun _ => .ntf },
   { classes := .vp, line := none, mask := 0x107#9, pattern := 0x002#9, build := fun _ => .atf },
   { classes := .vp, line := none, mask := 0x107#9, pattern := 0x004#9, build := fun _ => .plf },
   { classes := .vp, line := none, mask := 0x107#9, pattern := 0x006#9, build := fun _ => .phf },
   { classes := .vp, line := none, mask := 0x1F7#9, pattern := 0x140#9, build := fun _ => .pntf },
   { classes := .vp, line := none, mask := 0x1F7#9, pattern := 0x142#9, build := fun _ => .patf },
   { classes := .vp, line := none, mask := 0x1F7#9, pattern := 0x144#9, build := fun _ => .pplf },
   { classes := .vp, line := none, mask := 0x1F7#9, pattern := 0x146#9, build := fun _ => .pphf },
   { classes := .vp, line := none, mask := 0x1C7#9, pattern := 0x100#9, build := fun _ => .sntf },
   { classes := .vp, line := none, mask := 0x1C7#9, pattern := 0x102#9, build := fun _ => .satf },
   { classes := .vp, line := none, mask := 0x1C7#9, pattern := 0x104#9, build := fun lx => .splf (lx.extractLsb' 3 3) },
   { classes := .vp, line := none, mask := 0x1C7#9, pattern := 0x106#9, build := fun lx => .sphf (lx.extractLsb' 3 3) },
   { classes := .vp, line := none, mask := 0x1FF#9, pattern := 0x150#9, build := fun _ => .idlef1 },
   { classes := .vp, line := none, mask := 0x1FF#9, pattern := 0x152#9, build := fun _ => .idlef2 }]

/-- Picture, evaluation, end of the tile group and the advance (R231 steps 2c, 2d, 2e, 3). -/
def dotRowsPicture : List DotRow :=
  [{ classes := .v, line := none, mask := 0x100#9, pattern := 0x000#9, build := fun lx => .pixel (lx.extractLsb' 0 8) },
   { classes := .vp, line := none, mask := 0x103#9, pattern := 0x003#9, build := fun lx => .eval (lx.extractLsb' 2 6) },
   { classes := .vp, line := none, mask := 0x107#9, pattern := 0x007#9, build := fun _ => .reload },
   { classes := .vp, line := none, mask := 0x1F7#9, pattern := 0x147#9, build := fun _ => .preload },
   { classes := .vp, line := none, mask := 0x107#9, pattern := 0x007#9, build := fun _ => .incx },
   { classes := .vp, line := none, mask := 0x1F7#9, pattern := 0x147#9, build := fun _ => .pincx },
   { classes := .vp, line := none, mask := 0x1FF#9, pattern := 0x0FF#9, build := fun _ => .incy },
   { classes := .vbp, line := none, mask := 0x000#9, pattern := 0x000#9, build := fun _ => .advance }]

/-- The 29 rows of R117 in the order in which R231 executes them. -/
def dotTable : List DotRow := dotRowsLineStart ++ dotRowsTransfer ++ dotRowsFetch ++ dotRowsPicture

/-- The micro-operations the position `(ly, lx)` selects, in execution order (R117, R231). -/
def decodeDot (ly lx : Dot) : List Instr :=
  (dotTable.filter (fun r => dotSelects r ly lx)).map (fun r => r.build lx)

/-- The decoder over both formats: a word is one transaction, a position a list of micro-operations. -/
def decode (w : Bool) : Selector → List Instr
  | .port word => [decodePort w word]
  | .dot ly lx => decodeDot ly lx

/-! ### The encoder -/

/-- The state bit `w` under which a transaction is selected (R113, column `w`; "any" is given as 0). -/
def phaseOf : Instr → Bool
  | .w5b _ => true
  | .w6b _ => true
  | _ => false

/-- The selector of an instruction, written from R113 and R117: the word of a transaction (the ignored data field of a
read is 0), and for a micro-operation its match with its operand in the unmasked bits, on the first line of its classes. -/
def encode : Instr → Selector
  | .r0 => .port 0x000#12
  | .r1 => .port 0x100#12
  | .r2 => .port 0x200#12
  | .r3 => .port 0x300#12
  | .r4 => .port 0x400#12
  | .r5 => .port 0x500#12
  | .r6 => .port 0x600#12
  | .r7 => .port 0x700#12
  | .w0 d => .port (0x8#4 ++ d)
  | .w1 d => .port (0x9#4 ++ d)
  | .w2 d => .port (0xA#4 ++ d)
  | .w3 d => .port (0xB#4 ++ d)
  | .w4 d => .port (0xC#4 ++ d)
  | .w5a d => .port (0xD#4 ++ d)
  | .w5b d => .port (0xD#4 ++ d)
  | .w6a d => .port (0xE#4 ++ d)
  | .w6b d => .port (0xE#4 ++ d)
  | .w7 d => .port (0xF#4 ++ d)
  | .syncchk => .dot 0#9 0x000#9
  | .ls241 => .dot 241#9 0x000#9
  | .ls261 => .dot 261#9 0x000#9
  | .prefill => .dot 0#9 0x000#9
  | .ntf => .dot 0#9 0x000#9
  | .atf => .dot 0#9 0x002#9
  | .plf => .dot 0#9 0x004#9
  | .phf => .dot 0#9 0x006#9
  | .pixel col => .dot 0#9 (0#1 ++ col)
  | .eval n => .dot 0#9 (0#1 ++ n ++ 3#2)
  | .reload => .dot 0#9 0x007#9
  | .incx => .dot 0#9 0x007#9
  | .incy => .dot 0#9 0x0FF#9
  | .bankcopy => .dot 0#9 0x100#9
  | .copyh => .dot 0#9 0x101#9
  | .copyv => .dot 261#9 0x130#9
  | .sntf => .dot 0#9 0x100#9
  | .satf => .dot 0#9 0x102#9
  | .splf slot => .dot 0#9 (4#3 ++ slot ++ 4#3)
  | .sphf slot => .dot 0#9 (4#3 ++ slot ++ 6#3)
  | .pntf => .dot 0#9 0x140#9
  | .patf => .dot 0#9 0x142#9
  | .pplf => .dot 0#9 0x144#9
  | .pphf => .dot 0#9 0x146#9
  | .preload => .dot 0#9 0x147#9
  | .pincx => .dot 0#9 0x147#9
  | .idlef1 => .dot 0#9 0x150#9
  | .idlef2 => .dot 0#9 0x152#9
  | .advance => .dot 0#9 0x000#9

/-! ### The opcode table's own numbering of words (log entry 11) -/

/-- Why a number is no instruction word. -/
inductive DecodeError where
  /-- The number has more bits than its format (R110, R112). -/
  | tooWide
  deriving DecidableEq, Repr

/-- How many bits of the mask are 1. -/
def maskBits (m : Dot) : Nat := (List.range 9).countP m.getLsbD

/-- Of the rows of R117 whose match and mask `lx` meets on some line, the one with the narrowest mask, the first in
R231's order among equals. -/
def tableDotRow (lx : Dot) : Option DotRow :=
  (dotTable.filter (fun r => lx &&& r.mask == r.pattern)).foldl
    (fun best r =>
      match best with
      | none => some r
      | some b => if maskBits b.mask < maskBits r.mask then some r else some b)
    none

/-- The table numbers the words of both formats from bit 0 and gives no bit that tells the formats apart, so a number can
be a word of both. A number of fewer than 12 bits is a DOT word. Of the rest, the numbers 0x001 to 0x0FF and 0x101 to
0x1FF are read as DOT words (as transactions they are R0 and R1 with a data field that every decoder ignores), all
others as PORT words. DESIGN CHOICE of the table's interface only: `decodePort` and `decodeDot` know their format. -/
def tableIsDot (nbits w : Nat) : Bool :=
  decide (nbits < 12) || (decide (w < 512) && decide (w % 256 ≠ 0))

/-- The table word `w` of `nbits` bits, decoded, or why it is no word. -/
def decodeTable (nbits w : Nat) : Except DecodeError Instr :=
  if tableIsDot nbits w then
    if fitsDotWord w then
      match tableDotRow (BitVec.ofNat 9 w) with
      | some r => .ok (r.build (BitVec.ofNat 9 w))
      | none => .ok .advance
    else .error .tooWide
  else if fitsPortWord w then .ok (decodePort false (BitVec.ofNat 12 w))
  else .error .tooWide

/-- The host's interface to the decoder: the instruction of a table word, `w` of the state being 0. -/
def decodeTableWord (nbits w : Nat) : Option Instr :=
  match decodeTable nbits w with
  | .ok i => some i
  | .error _ => none

/-! ### Pseudo-operations of the trace notation (R119, R120) -/

/-- `Wp dd` (R119). -/
def traceWrite (p : Nat) (d : Byte) : GapAction := .transaction (portWord true p d)

/-- `Rp` (R119). -/
def traceRead (p : Nat) : GapAction := .transaction (portWord false p 0#8)

/-- `SCROLL X, Y` (R120). -/
def traceScroll (x y : Byte) : List GapAction := [traceRead 2, traceWrite 5 x, traceWrite 5 y]

/-- `ADDR a` (R120). -/
def traceAddr (a : VAddr) : List GapAction :=
  [traceRead 2, traceWrite 6 ((a >>> 8).setWidth 8), traceWrite 6 (a.setWidth 8)]

/-- `POKE a, d` (R120). -/
def tracePoke (a : VAddr) (d : Byte) : List GapAction := traceAddr a ++ [traceWrite 7 d]

/-- `PEEK a` (R120). -/
def tracePeek (a : VAddr) : List GapAction := traceAddr a ++ [traceRead 7, traceRead 7]

/-- `PEEKPAL a` (R120). -/
def tracePeekPal (a : VAddr) : List GapAction := traceAddr a ++ [traceRead 7]

/-- `SPRITE n, Y, T, A, X` (R120). -/
def traceSprite (n : BitVec 6) (y t a x : Byte) : List GapAction :=
  [traceWrite 3 (n ++ 0#2), traceWrite 4 y, traceWrite 4 t, traceWrite 4 a, traceWrite 4 x]

end Sys2Proof
end

