-- ==== Sys2Proof/Config.lean ====
section
/-! DEFINITION. The open parameters of spec/00_scope.md R6 as plain data, the collaborator calls of R9, and the free values
that stand for the mapper (spec/20_memory.md R74, R75) and for the CPU (spec/60_exceptions.md R350). -/

namespace Sys2Proof

/-- What leaves the core: every collaborator call (R9), every byte a read transaction returns to the CPU, and the end of
every dot step. The log of these events is the history that the mapper's oracle sees (R74) and the CPU acts on (R350). -/
inductive Event where
  /-- `PatRead(a)` and the byte the core keeps of the reply (R74). -/
  | patRead (a : VAddr) (reply : Byte)
  /-- `NtRead(a)` and the byte the core keeps of the reply (R75). -/
  | ntRead (a : VAddr) (reply : Byte)
  /-- `PatWrite(a, d)` (R74). -/
  | patWrite (a : VAddr) (d : Byte)
  /-- `NtWrite(a, d)` (R75). -/
  | ntWrite (a : VAddr) (d : Byte)
  /-- `IrqSet(level)`, made at every point of R343 even if the level does not change (R342). -/
  | irqSet (level : Bool)
  /-- `FrameReady(FB)` with the frame delivered (R246). -/
  | frameReady (fb : Memory 9)
  /-- `FrameEvent()` (R246). -/
  | frameEvent
  /-- `SyncExit()` (R247); its `reason` is opaque in the spec and is not carried. -/
  | syncExit
  /-- The byte a read of `port` returned to the CPU (R140 to R147). -/
  | portRead (port : BitVec 3) (value : Byte)
  /-- The end of a dot step: the raster agent hands over to the CPU (R231, R350). -/
  | handOver
  deriving DecidableEq, Repr

/-- The open parameters of R6 that are numbers or functions on small numbers. The model takes them as an argument:
a field of State that no step sets. -/
structure Params where
  /-- `CLOCKS_PER_DOT`, a positive integer. -/
  clocksPerDot : Nat
  /-- `PALETTE_MIRROR`, a function on a 5-bit index as data: the first pair whose left side is the index gives its
  image; an index with no pair maps to itself. -/
  paletteMirror : List (BitVec 5 × BitVec 5)
  /-- `OAMDATA_MASK_SEL`. -/
  oamDataMaskSel : BitVec 2
  /-- `OAMDATA_MASK`. -/
  oamDataMask : Byte
  deriving DecidableEq, Repr

/-- The default of `PALETTE_MIRROR` (R6, R80): 0x10, 0x14, 0x18, 0x1C go to 0x00, 0x04, 0x08, 0x0C. -/
def Params.foldDefault : List (BitVec 5 × BitVec 5) :=
  [(0x10#5, 0x00#5), (0x14#5, 0x04#5), (0x18#5, 0x08#5), (0x1C#5, 0x0C#5)]

/-- The recorded alternative (R80; 90_conflicts.md C4): 0x14, 0x18, 0x1C go to 0x10, 0x14, 0x18. -/
def Params.foldLiteral : List (BitVec 5 × BitVec 5) :=
  [(0x14#5, 0x10#5), (0x18#5, 0x14#5), (0x1C#5, 0x18#5)]

/-- The defaults of R6. PRESUMED (log entry 3): the spec marks 4 and the fold `[from general knowledge]`. -/
def Params.defaults : Params :=
  { clocksPerDot := 4, paletteMirror := Params.foldDefault, oamDataMaskSel := 3#2, oamDataMask := 0x1F#8 }

/-- `CLOCKS_PER_DOT` is a positive integer (R6). -/
abbrev Params.wf (p : Params) : Prop := 0 < p.clocksPerDot

/-- FREE VALUE (log entry 4): the mapper's reply to a read of an address, given the history of events (newest first).
It has no body, so any value is possible at every call (R74: "a model treats `PatRead` as an oracle that sees that
history"), and no two calls need agree. A Nat, since the mapper may return more than 8 bits. -/
opaque Config.mapperReply : List Event → VAddr → Nat

/-- FREE VALUE (log entry 2): `CPU_SCHEDULE` (R6), what the CPU does in the gap that now opens, given the history of events
(newest first) and `irq_line` (R350: "a function from the history (in particular from the values returned by earlier reads
and from `irq_line`) to the finite list of transactions of the next gap"). It has no body, so any finite list is possible in
any gap; a reset may stand in it too (R372). -/
opaque Config.gapActions : List Event → Bool → List GapAction

end Sys2Proof
end

