-- ==== Sys2Proof/Machine/State.lean ====
section
/-! DEFINITION. The state of the PPU raster engine (spec/10_state.md R20 to R56), the state after reset (R60), and the
reasons a step could stop, of which the spec gives none (spec/60_exceptions.md R340). -/

namespace Sys2Proof.Machine

/-- One entry of a sprite bank (R53). -/
structure SpriteEntry where
  /-- Sprite number 0 to 63, or 64 for the sentinel. -/
  id : BitVec 7
  /-- Row inside the sprite, before vertical flip. -/
  row : BitVec 4
  tile : Byte
  attr : Byte
  x : Byte
  /-- Fetched low pattern plane. -/
  lo : Byte
  /-- Fetched high pattern plane. -/
  hi : Byte
  deriving DecidableEq, Repr

/-- The entry "no sprite" (R55). -/
def SpriteEntry.sentinel : SpriteEntry :=
  { id := 64#7, row := 0#4, tile := 0xFF#8, attr := 0x00#8, x := 0xFF#8, lo := 0x00#8, hi := 0x00#8 }

/-- The entry after reset: every field 0 (R60). -/
def SpriteEntry.zero : SpriteEntry :=
  { id := 0#7, row := 0#4, tile := 0x00#8, attr := 0x00#8, x := 0x00#8, lo := 0x00#8, hi := 0x00#8 }

/-- A sprite bank, `SEC` or `SPR` (R52). -/
abbrev SpriteBank := Vector SpriteEntry 8

/-- A mapper that acts as a plain memory (93_implementation_defined.md section 2: "a model may instantiate a simple
memory"). DESIGN CHOICE (log entry 5). -/
structure PlainMapper where
  /-- The bytes, by the address after the fold; an address not listed reads 0. -/
  cells : Memory 8
  /-- Does a `PatWrite` store? A `NtWrite` always does. -/
  patternIsRam : Bool
  /-- Which 1 KiB page answers for each of the four logical nametables; none: every address answers for itself. -/
  pages : Option (Vector (BitVec 2) 4)
  deriving DecidableEq, Repr

/-- What stands behind the mapper interfaces of R74 and R75. It is not state of the core (R21, R61): it is the launch
state's description of the collaborator. -/
inductive Mapper where
  /-- Every reply is a free value (log entry 4). -/
  | oracle
  /-- A plain memory (log entry 5). -/
  | memory (m : PlainMapper)
  deriving DecidableEq, Repr

/-- Who decides the gaps that `schedule` does not list (R350). It is not state of the core (R4, R21): it is the launch
state's description of the collaborator. -/
inductive Cpu where
  /-- Every gap is a free value of the history (log entry 2). -/
  | free
  /-- A CPU that asks for nothing: empty gaps (log entry 2). -/
  | idle
  deriving DecidableEq, Repr

/-- The machine. The fields from `v` to `hiLatch` are the spec's state (R20); the last seven are the model's own: parameters,
collaborators and inputs of the step relation (R21), and the outputs. -/
structure State where
  /-- Current VRAM address (R22). -/
  v : VReg
  /-- Temporary VRAM address (R23). -/
  t : VReg
  /-- Fine x (R25). -/
  x : BitVec 3
  /-- Write toggle (R26): false, the next write of port 5 or 6 is the first of its pair. -/
  w : Bool
  /-- Bus-data latch (R27). -/
  busLatch : Byte
  /-- VRAM read buffer (R28). -/
  readBuffer : Byte
  /-- OAM address pointer (R29). -/
  oamAddr : Byte
  /-- Scanline of the next dot (R30). -/
  ly : Dot
  /-- The next dot (R30). -/
  lx : Dot
  /-- Frame parity: true is an odd frame (R31). -/
  parity : Bool
  /-- The core's copy of the master clock (R32). -/
  clock : Nat
  /-- Vblank flag (R33). -/
  vblank : Bool
  /-- Sprite-zero-hit flag (R34). -/
  spr0hit : Bool
  /-- Sprite-overflow flag (R35). -/
  sprovf : Bool
  /-- Level of the interrupt line (R36). -/
  irqLine : Bool
  /-- Interrupt enable (R37). -/
  nmiEnable : Bool
  /-- Sprites are 16 rows high (R37). -/
  spriteSize : Bool
  /-- Pattern table of the background (R37). -/
  bgPatternSel : Bool
  /-- Pattern table of 8-row sprites (R37). -/
  sprPatternSel : Bool
  /-- Port 7 adds 32 (R37). -/
  vramInc32 : Bool
  /-- Palette reads are masked (R39). -/
  grayscale : Bool
  /-- Background is transparent at pixels 0 to 7 (R39). -/
  bgEdgeClip : Bool
  /-- Sprites are transparent at pixels 0 to 7 (R39). -/
  sprEdgeClip : Bool
  /-- Background rendering enable (R39). -/
  bgEnable : Bool
  /-- Sprite rendering enable (R39). -/
  sprEnable : Bool
  /-- Colour emphasis (R39). -/
  emphasis : BitVec 3
  /-- `PAL[0..31]` (R45). -/
  pal : Memory 8
  /-- `OAM[0..255]` (R46). -/
  oam : Memory 8
  /-- `FB[0..239][0..255]`, `FB[y][x]` at key `256 y + x` (R47). -/
  fb : Memory 9
  /-- Low background pattern shift register (R50). -/
  bgLo : BitVec 16
  /-- High background pattern shift register (R50). -/
  bgHi : BitVec 16
  /-- Attribute shift register (R51). -/
  bgAt : BitVec 16
  /-- `SEC[0..7]`, the evaluation bank (R52). -/
  sec : SpriteBank
  /-- `SPR[0..7]`, the output bank (R52). -/
  spr : SpriteBank
  /-- Filled entries of `SEC` (R54). -/
  secCount : BitVec 4
  /-- Nametable byte being fetched (R56). -/
  ntLatch : Byte
  /-- Palette selector being fetched (R56). -/
  atLatch : BitVec 2
  /-- Low pattern-plane byte (R56). -/
  loLatch : Byte
  /-- High pattern-plane byte (R56). -/
  hiLatch : Byte
  /-- MODEL: the open parameters (R6); no step sets them. -/
  params : Params
  /-- MODEL: the mapper (R74, R75). -/
  mapper : Mapper
  /-- MODEL: what is left of the present gap (R7). -/
  gap : List GapAction
  /-- MODEL: the next gaps, where they are given as data (R6, `CPU_SCHEDULE`); after the last, `cpu` decides. -/
  schedule : List (List GapAction)
  /-- MODEL: the CPU behind the schedule (R350). -/
  cpu : Cpu
  /-- MODEL: the scheduler's answer at each coming SYNCCHK (R247); after the last, no request. -/
  syncRequests : List Bool
  /-- MODEL: the outputs and collaborator calls, newest first. -/
  log : List Event
  deriving DecidableEq, Repr

/-- Why a machine stops with a fault: it never does, so there is no constructor. R340: "There is no synchronous
exception, no cause code and no fault record" and "Every port transaction and every dot step completes". -/
inductive Fault where
  deriving DecidableEq, Repr

/-- Why an instruction would have no meaning. -/
inductive Refusal where
  /-- Raised by an arm of `exec` whose instruction has no meaning yet; no arm does. Safe. -/
  | notModelled (mnemonic : String)
  deriving DecidableEq, Repr

/-- What a meaning answers. -/
abbrev Result := Host.Outcome State Fault Refusal

/-- The machine after reset: every item of the core's state is zero (R60, R370). The model's own fields: the default
parameters (log entry 3), a mapper and a CPU of free values, with gap 0 the CPU's already (R371), no scheduler request and no
output yet (log entry 6). -/
def State.reset : State :=
  { v := 0#15, t := 0#15, x := 0#3, w := false,
    busLatch := 0x00#8, readBuffer := 0x00#8, oamAddr := 0x00#8,
    ly := 0#9, lx := 0#9, parity := false, clock := 0,
    vblank := false, spr0hit := false, sprovf := false, irqLine := false,
    nmiEnable := false, spriteSize := false, bgPatternSel := false, sprPatternSel := false, vramInc32 := false,
    grayscale := false, bgEdgeClip := false, sprEdgeClip := false, bgEnable := false, sprEnable := false,
    emphasis := 0#3,
    pal := [], oam := [], fb := [],
    bgLo := 0#16, bgHi := 0#16, bgAt := 0#16,
    sec := Vector.replicate 8 SpriteEntry.zero, spr := Vector.replicate 8 SpriteEntry.zero, secCount := 0#4,
    ntLatch := 0x00#8, atLatch := 0#2, loLatch := 0x00#8, hiLatch := 0x00#8,
    params := Params.defaults, mapper := .oracle,
    gap := Config.gapActions [] false, schedule := [], cpu := .free, syncRequests := [], log := [] }

end Sys2Proof.Machine
end

