-- ==== Sys2Proof/Machine/Operands.lean ====
section
/-! DEFINITION. Operand forms: the fields of `v` and `t` (spec/10_state.md R24), the split of each data byte
(spec/30_encoding.md R114), the derived values (spec/42_scroll_algebra.md R190 to R194) and every address formula
(spec/45_background_fetch.md, spec/46_sprite_fetch.md). -/

namespace Sys2Proof.Machine

/-! ### Fields of `v` and `t` (R24, R191) -/

/-- `[4:0]`. -/
def coarseX (r : VReg) : BitVec 5 := r.extractLsb' 0 5

/-- `[9:5]`. -/
def coarseY (r : VReg) : BitVec 5 := r.extractLsb' 5 5

/-- `[11:10]`: `V` in bit 1, `H` in bit 0. -/
def ntSelect (r : VReg) : BitVec 2 := r.extractLsb' 10 2

/-- `[14:12]`. -/
def fineY (r : VReg) : BitVec 3 := r.extractLsb' 12 3

/-- The register with the given fields (R24). -/
def packReg (fy : BitVec 3) (nt : BitVec 2) (cy cx : BitVec 5) : VReg := fy ++ nt ++ cy ++ cx

/-- `H`, bit 10. -/
def ntH (r : VReg) : Bool := r.getLsbD 10

/-- `V`, bit 11. -/
def ntV (r : VReg) : Bool := r.getLsbD 11

/-! ### Derived values -/

/-- R190. -/
def ntBase (v : VReg) : VAddr := 0x2000#14 ||| (v &&& 0x0C00#15).setWidth 14

/-- R192; no rule reads it. -/
def scrollX (v : VReg) (x : BitVec 3) : Byte := coarseX v ++ x

/-- R193; no rule reads it. -/
def scrollY (v : VReg) : Byte := coarseY v ++ fineY v

/-- R194. -/
def spriteHeight (spriteSize : Bool) : Nat := if spriteSize then 16 else 8

/-! ### What the writes do to `t` (R114) -/

/-- W0: `t[11:10] <- d[1:0]` (R161). -/
def tAfterControl (t : VReg) (d : Byte) : VReg := packReg (fineY t) (d.extractLsb' 0 2) (coarseY t) (coarseX t)

/-- W5a: `t[4:0] <- d[7:3]` (R166). -/
def tAfterScrollFirst (t : VReg) (d : Byte) : VReg := packReg (fineY t) (ntSelect t) (coarseY t) (d.extractLsb' 3 5)

/-- W5b: `t[14:12] <- d[2:0]`, `t[9:5] <- d[7:3]` (R167). -/
def tAfterScrollSecond (t : VReg) (d : Byte) : VReg :=
  packReg (d.extractLsb' 0 3) (ntSelect t) (d.extractLsb' 3 5) (coarseX t)

/-- W6a: `t[13:8] <- d[5:0]`, `t[14] <- 0` (R168). -/
def tAfterAddressFirst (t : VReg) (d : Byte) : VReg := 0#1 ++ d.extractLsb' 0 6 ++ t.extractLsb' 0 8

/-- W6b: `t[7:0] <- d` (R169). -/
def tAfterAddressSecond (t : VReg) (d : Byte) : VReg := t.extractLsb' 8 7 ++ d

/-! ### The operations on `v` (R195 to R198) -/

/-- R195: coarse X plus 1; from 31 it wraps to 0 and toggles `H`. -/
def vAfterIncX (v : VReg) : VReg :=
  if coarseX v = 31#5 then packReg (fineY v) (ntSelect v ^^^ 1#2) (coarseY v) 0#5
  else packReg (fineY v) (ntSelect v) (coarseY v) (coarseX v + 1#5)

/-- R196: fine Y plus 1; from 7 it wraps and steps coarse Y, which goes from 29 to 0 with a toggle of `V`, from 31 to 0
without. -/
def vAfterIncY (v : VReg) : VReg :=
  if (fineY v).toNat < 7 then packReg (fineY v + 1#3) (ntSelect v) (coarseY v) (coarseX v)
  else if coarseY v = 29#5 then packReg 0#3 (ntSelect v ^^^ 2#2) 0#5 (coarseX v)
  else if coarseY v = 31#5 then packReg 0#3 (ntSelect v) 0#5 (coarseX v)
  else packReg 0#3 (ntSelect v) (coarseY v + 1#5) (coarseX v)

/-- R197: bits 4:0 and 10 of `t` into `v`. -/
def vAfterCopyH (v t : VReg) : VReg := (v &&& 0x7BE0#15) ||| (t &&& 0x041F#15)

/-- The step of `v` at a port-7 access (R147, R170), modulo 0x8000. -/
def vAfterAccess (v : VReg) (inc32 : Bool) : VReg := v + (if inc32 then 32#15 else 1#15)

/-- R72: the address of a port-7 access is `v[13:0]`. -/
def portAddr (v : VReg) : VAddr := v.extractLsb' 0 14

/-! ### Fetch addresses -/

/-- R271: `0x2000 | (v & 0x0FFF)`. -/
def ntAddr (v : VReg) : VAddr := 0x2000#14 ||| (v &&& 0x0FFF#15).setWidth 14

/-- R272: `0x23C0 | (v & 0x0C00) | ((v >> 4) & 0x38) | ((v >> 2) & 0x07)`. -/
def atAddr (v : VReg) : VAddr :=
  (0x23C0#15 ||| (v &&& 0x0C00#15) ||| ((v >>> 4) &&& 0x38#15) ||| ((v >>> 2) &&& 0x07#15)).setWidth 14

/-- R272: `((v >> 4) & 4) | (v & 2)`. -/
def atShift (v : VReg) : Nat := (((v >>> 4) &&& 4#15) ||| (v &&& 2#15)).toNat

/-- R272: `(b >> shift) & 3`. -/
def atSelect (b : Byte) (v : VReg) : BitVec 2 := b.extractLsb' (atShift v) 2

/-- R273: `(bg_pattern_sel << 12) | (nt_latch << 4) | (p << 3) | v[14:12]`. -/
def bgPatAddr (sel : Bool) (nt : Byte) (plane : Bool) (v : VReg) : VAddr :=
  0#1 ++ BitVec.ofBool sel ++ nt ++ BitVec.ofBool plane ++ fineY v

/-- R291: attribute bit 7. -/
def attrFlipV (attr : Byte) : Bool := attr.getLsbD 7

/-- R291: attribute bit 6. -/
def attrFlipH (attr : Byte) : Bool := attr.getLsbD 6

/-- R291: attribute bit 5, behind the background. -/
def attrBehind (attr : Byte) : Bool := attr.getLsbD 5

/-- R291: attribute bits 1:0, the sprite palette. -/
def attrPalette (attr : Byte) : BitVec 2 := attr.extractLsb' 0 2

/-- R292, 8-row sprites. -/
def sprPatAddr8 (sel : Bool) (e : SpriteEntry) (plane : Bool) : VAddr :=
  let r := e.row.extractLsb' 0 3
  let r := if attrFlipV e.attr then r ^^^ 7#3 else r
  0#1 ++ BitVec.ofBool sel ++ e.tile ++ BitVec.ofBool plane ++ r

/-- R293, 16-row sprites: bit 0 of the tile selects the table. -/
def sprPatAddr16 (e : SpriteEntry) (plane : Bool) : VAddr :=
  let r := if attrFlipV e.attr then e.row ^^^ 15#4 else e.row
  0#1 ++ e.tile.extractLsb' 0 1 ++ e.tile.extractLsb' 1 7 ++ r.extractLsb' 3 1 ++ BitVec.ofBool plane ++ r.extractLsb' 0 3

/-- R292 and R293: the sprite size at the moment of the fetch decides. -/
def sprPatAddr (spriteSize sel : Bool) (e : SpriteEntry) (plane : Bool) : VAddr :=
  if spriteSize then sprPatAddr16 e plane else sprPatAddr8 sel e plane

/-- Key of byte `k` of sprite `n` in `OAM` (R46). -/
def oamKey (n : BitVec 6) (k : Nat) : Nat := 4 * n.toNat + k

/-- Key of `FB[y][x]`. -/
def fbKey (ly : Dot) (col : Byte) : Nat := 256 * ly.toNat + col.toNat

/-- R80 and R6: the palette fold, by the parameter's pairs. -/
def paletteFold : List (BitVec 5 × BitVec 5) → BitVec 5 → BitVec 5
  | [], i => i
  | (a, b) :: rest, i => if i = a then b else paletteFold rest i

end Sys2Proof.Machine
end

