-- ==== Sys2Proof/Machine/Flags.lean ====
section
/-! DEFINITION. Every flag computation: the status byte (spec/10_state.md R43), the level of the interrupt line (R36,
spec/60_exceptions.md R343), sprite-zero hit (spec/47_pixel_composition.md R316), sprite match and overflow
(spec/43_sprite_evaluator.md R212, R214), end of line (spec/44_raster_state_machine.md R244). -/

namespace Sys2Proof.Machine

/-- R43: `{vblank, spr0hit, sprovf, bus_latch[4:0]}`. -/
def statusByte (vblank spr0hit sprovf : Bool) (latch : Byte) : Byte :=
  BitVec.ofBool vblank ++ BitVec.ofBool spr0hit ++ BitVec.ofBool sprovf ++ latch.extractLsb' 0 5

/-- R161: the level a port-0 write drives, `nmi_enable & vblank`. -/
def irqLevel (nmiEnable vblank : Bool) : Bool := nmiEnable && vblank

/-- R38: rendering is enabled. -/
def State.rendering (s : State) : Bool := s.bgEnable || s.sprEnable

/-- R316: `sp != 0 and zero and bg != 0`. -/
def zeroHits (sp : BitVec 5) (zero : Bool) (bg : BitVec 4) : Bool := sp != 0#5 && zero && bg != 0#4

/-- R212: the current line as a mathematical integer, -1 on the pre-render line. -/
def evalLine (ly : Dot) : Int := if ly = 261#9 then -1 else (ly.toNat : Int)

/-- R212: `L - OAM[4n]`. -/
def rowDiff (ly : Dot) (y : Byte) : Int := evalLine ly - (y.toNat : Int)

/-- R212: `0 <= diff < height`. -/
def spriteMatches (spriteSize : Bool) (ly : Dot) (y : Byte) : Bool :=
  decide (0 ≤ rowDiff ly y) && decide (rowDiff ly y < (spriteHeight spriteSize : Int))

/-- R213, R214: the bank is full, so a match sets the overflow flag. -/
def bankFull (count : BitVec 4) : Bool := count == 8#4

/-- R242, R244: the dot ends its line. -/
def endOfLine (s : State) : Bool :=
  s.lx == 340#9 || (s.lx == 339#9 && s.ly == 261#9 && s.parity && s.rendering)

end Sys2Proof.Machine
end

