-- ==== Sys2Proof/Machine/Ops.lean ====
section
/-! DEFINITION. The shared operations: a memory held as plain data, the collaborator calls (spec/00_scope.md R9,
spec/20_memory.md R74, R75), the routed accesses (R76, R77), the palette (R78 to R80), the fetch gated by rendering (R94,
R270), the output of a read, and the reset event (spec/70_reset_and_hazards.md R370).

Taking an exception and returning from one have no operation here: the core "has no trap entry" (R346) and "no trap return"
(R347). Its one interrupt output is driven by `irqSet` (R342). -/

namespace Sys2Proof

/-! ### Memory as plain data -/

/-- Reads the cell `a`; a key that is not listed reads 0, the reset contents of every memory of the core (R60). -/
def Memory.read {n : Nat} : Memory n → Nat → BitVec n
  | [], _ => 0#n
  | (b, u) :: rest, a => if a = b then u else Memory.read rest a

/-- Writes the cell `a`, keeping the keys rising and no 0 listed. -/
def Memory.write {n : Nat} : Memory n → Nat → BitVec n → Memory n
  | [], a, d => if d = 0#n then [] else [(a, d)]
  | (b, u) :: rest, a, d =>
    if a < b then (if d = 0#n then (b, u) :: rest else (a, d) :: (b, u) :: rest)
    else if a = b then (if d = 0#n then rest else (a, d) :: rest)
    else (b, u) :: Memory.write rest a d

/-- Keys rise strictly from `lo` on and no value is 0. -/
def Memory.wfFrom {n : Nat} (lo : Nat) : Memory n → Bool
  | [] => true
  | (b, u) :: rest => decide (lo ≤ b) && (u != 0#n) && Memory.wfFrom (b + 1) rest

/-- The canonical form: keys rise strictly and no value is 0. -/
def Memory.wf {n : Nat} (m : Memory n) : Bool := Memory.wfFrom 0 m

/-- Every listed key is below `size`. -/
def Memory.within {n : Nat} (size : Nat) (m : Memory n) : Bool := m.all (fun c => decide (c.1 < size))

namespace Machine

/-! ### Collaborator calls -/

/-- Notes an event. -/
def emit (e : Event) (s : State) : State := { s with log := e :: s.log }

/-- `IrqSet(level)` (R342): writes `irq_line` and presents the level. -/
def irqSet (level : Bool) (s : State) : State := emit (.irqSet level) { s with irqLine := level }

/-- The key under which a plain mapper keeps an address (log entry 5): with a page table, the four logical nametables, and
their repetition from 0x3000, are folded onto the pages. -/
def plainKey (m : PlainMapper) (a : VAddr) : Nat :=
  match m.pages with
  | none => a.toNat
  | some p =>
    if a.toNat < 0x2000 then a.toNat
    else 0x2000 + 0x400 * (p[(a.extractLsb' 10 2).toNat]'(a.extractLsb' 10 2).isLt).toNat + (a.extractLsb' 0 10).toNat

/-- The byte the mapper replies; bits 7:0 of whatever is returned are kept (R74). -/
def mapperReply (s : State) (a : VAddr) : Byte :=
  match s.mapper with
  | .oracle => BitVec.ofNat 8 (Config.mapperReply s.log a)
  | .memory m => Memory.read m.cells (plainKey m a)

/-- What a write does to the mapper: nothing the core can know of a mapper of free values (its later replies are free); a
plain memory stores it, in pattern memory only if that is RAM. -/
def mapperAfterWrite (a : VAddr) (d : Byte) : Mapper → Mapper
  | .oracle => .oracle
  | .memory m =>
    if a.toNat < 0x2000 && !m.patternIsRam then .memory m
    else .memory { m with cells := Memory.write m.cells (plainKey m a) d }

/-- `PatRead(a)` (R74). -/
def patRead (a : VAddr) (s : State) : Byte × State := (mapperReply s a, emit (.patRead a (mapperReply s a)) s)

/-- `NtRead(a)` (R75); the address is passed unchanged. -/
def ntRead (a : VAddr) (s : State) : Byte × State := (mapperReply s a, emit (.ntRead a (mapperReply s a)) s)

/-- `PatWrite(a, d)` (R74). -/
def patWrite (a : VAddr) (d : Byte) (s : State) : State :=
  emit (.patWrite a d) { s with mapper := mapperAfterWrite a d s.mapper }

/-- `NtWrite(a, d)` (R75). -/
def ntWrite (a : VAddr) (d : Byte) (s : State) : State :=
  emit (.ntWrite a d) { s with mapper := mapperAfterWrite a d s.mapper }

/-! ### Routed accesses -/

/-- `MemRead(a, 1)` (R76). -/
def memRead (a : VAddr) (s : State) : Byte × State := if a.toNat < 0x2000 then patRead a s else ntRead a s

/-- R94 and R270: a raster fetch; with rendering disabled no call is made and the value is 0x00. -/
def fetch (a : VAddr) (s : State) : Byte × State := if s.rendering then memRead a s else (0x00#8, s)

/-- The cell of `PAL` behind an index (R78, R80). -/
def palKey (s : State) (i : BitVec 5) : Nat := (paletteFold s.params.paletteMirror i).toNat

/-- `PalRead(i)` (R78). -/
def palRead (i : BitVec 5) (s : State) : Byte :=
  if s.grayscale then Memory.read s.pal (palKey s i) &&& 0x30#8 else Memory.read s.pal (palKey s i)

/-- `PalWrite(i, d)` (R79). -/
def palWrite (i : BitVec 5) (d : Byte) (s : State) : State := { s with pal := Memory.write s.pal (palKey s i) d }

/-- `MemWrite(a, 1, d)` (R77). -/
def memWrite (a : VAddr) (d : Byte) (s : State) : State :=
  if a.toNat < 0x2000 then patWrite a d s
  else if a.toNat < 0x3F00 then ntWrite a d s
  else palWrite (a.extractLsb' 0 5) d s

/-- The post-increment of a port-7 access (R147, R170). -/
def stepV (s : State) : State := { s with v := vAfterAccess s.v s.vramInc32 }

/-- The byte a read transaction returns to the CPU. -/
def answer (port : BitVec 3) (value : Byte) (s : State) : State := emit (.portRead port value) s

/-- R160, the prologue of every write. -/
def latchWrite (d : Byte) (s : State) : State := { s with busLatch := d }

/-! ### Gaps and reset -/

/-- `CPU_SCHEDULE` (R6, R350): the actions of the gap that now opens. Where the schedule lists none, a free CPU gives any
list, by the history and `irq_line`, and an idle one none (log entry 2). -/
def nextGap (s : State) : List GapAction :=
  match s.schedule with
  | g :: _ => g
  | [] =>
    match s.cpu with
    | .free => Config.gapActions s.log s.irqLine
    | .idle => []

/-- The end of a dot step (R7, R231, R350): the raster agent hands over, and the next gap opens. -/
def openGap (s : State) : State :=
  { emit .handOver s with gap := nextGap (emit .handOver s), schedule := s.schedule.tail }

/-- `Reset` (R370): every item of the core's state takes its value of R60, and the interrupt line is low (`IrqSet(0)`).
Pattern memory, nametable RAM and the mapper are not touched (R61); parameters and inputs are outside the core. -/
def resetEvent (s : State) : State :=
  irqSet false
    { State.reset with
      params := s.params, mapper := s.mapper, gap := s.gap, schedule := s.schedule, cpu := s.cpu,
      syncRequests := s.syncRequests, log := s.log }

end Machine

end Sys2Proof
end

