-- ==== Sys2Proof/Machine/BgFetch.lean ====
section
/-! DEFINITION. The background fetch pipeline (spec/45_background_fetch.md R270 to R277). The prefetch rows are the same
operations at dots 320 to 335. -/

namespace Sys2Proof.Machine

/-- R271: the nametable byte into `nt_latch`. -/
def nametableFetch (s : State) : State :=
  let r := fetch (ntAddr s.v) s
  { r.2 with ntLatch := r.1 }

/-- R272: the attribute byte, two bits of it into `at_latch`. -/
def attributeFetch (s : State) : State :=
  let r := fetch (atAddr s.v) s
  { r.2 with atLatch := atSelect r.1 s.v }

/-- R274: the low plane into `lo_latch`. -/
def lowPlaneFetch (s : State) : State :=
  let r := fetch (bgPatAddr s.bgPatternSel s.ntLatch false s.v) s
  { r.2 with loLatch := r.1 }

/-- R275: the high plane into `hi_latch`. -/
def highPlaneFetch (s : State) : State :=
  let r := fetch (bgPatAddr s.bgPatternSel s.ntLatch true s.v) s
  { r.2 with hiLatch := r.1 }

/-- R276: the registers move left by 8 and take the latches; whether or not rendering is enabled. -/
def reloadShift (s : State) : State :=
  { s with
    bgLo := s.bgLo.extractLsb' 0 8 ++ s.loLatch, bgHi := s.bgHi.extractLsb' 0 8 ++ s.hiLatch,
    bgAt := s.bgAt.extractLsb' 0 8 ++ 0#6 ++ s.atLatch }

/-- R277 and R295: an access whose value is discarded; its only effect is the call the mapper sees. -/
def dummyFetch (a : VAddr) (s : State) : State := (fetch a s).2

/-- R271, NTF. -/
def execNtf (s : State) : Result := .next (nametableFetch s)

/-- R272, ATF. -/
def execAtf (s : State) : Result := .next (attributeFetch s)

/-- R274, PLF. -/
def execPlf (s : State) : Result := .next (lowPlaneFetch s)

/-- R275, PHF. -/
def execPhf (s : State) : Result := .next (highPlaneFetch s)

/-- R276, RELOAD. -/
def execReload (s : State) : Result := .next (reloadShift s)

/-- R271, PNTF. -/
def execPntf (s : State) : Result := .next (nametableFetch s)

/-- R272, PATF. -/
def execPatf (s : State) : Result := .next (attributeFetch s)

/-- R274, PPLF. -/
def execPplf (s : State) : Result := .next (lowPlaneFetch s)

/-- R275, PPHF. -/
def execPphf (s : State) : Result := .next (highPlaneFetch s)

/-- R276, PRELOAD. -/
def execPreload (s : State) : Result := .next (reloadShift s)

/-- R277, IDLEF1. -/
def execIdlef1 (s : State) : Result := .next (dummyFetch (ntAddr s.v) s)

/-- R277, IDLEF2. -/
def execIdlef2 (s : State) : Result := .next (dummyFetch (ntAddr s.v) s)

end Sys2Proof.Machine
end

