-- ==== Sys2Proof/Machine/Pixel.lean ====
section
/-! DEFINITION. Pixel composition (spec/47_pixel_composition.md R310 to R318). The column `col` is `lx`, 0 to 255. -/

namespace Sys2Proof.Machine

/-- `(sp, front, zero)`: the palette index (0, none), front priority, and whether the sprite's id is 0 (R314). -/
structure SpritePixel where
  sp : BitVec 5
  front : Bool
  zero : Bool
  deriving DecidableEq, Repr

/-- Bit `i` of two planes, the high one above the low one. -/
def planeBits {n : Nat} (hi lo : BitVec n) (i : Nat) : BitVec 2 := BitVec.ofBool (hi.getLsbD i) ++ BitVec.ofBool (lo.getLsbD i)

/-- R311: `x + lx[2:0]`, 0 to 14. -/
def bgPos (x : BitVec 3) (col : Byte) : Nat := x.toNat + (col.extractLsb' 0 3).toNat

/-- R311, `BgSelect`. -/
def bgSelect (s : State) (col : Byte) : BitVec 4 :=
  let pos := bgPos s.x col
  let p := planeBits s.bgHi s.bgLo (15 - pos)
  let a := if pos < 8 then s.bgAt.extractLsb' 8 2 else s.bgAt.extractLsb' 0 2
  if p = 0#2 then 0#4 else a ++ p

/-- R312, `BgPixel`. -/
def bgPixel (s : State) (col : Byte) : BitVec 4 :=
  if !s.bgEnable || (decide (col.toNat < 8) && s.bgEdgeClip) then 0#4 else bgSelect s col

/-- "no sprite pixel". -/
def SpritePixel.none : SpritePixel := { sp := 0#5, front := false, zero := false }

/-- R314: the pattern value of an entry at a column, 0 where the entry shows nothing. -/
def spritePattern (e : SpriteEntry) (col : Byte) : BitVec 2 :=
  let off : Int := (col.toNat : Int) - (e.x.toNat : Int)
  if e.id = 64#7 ∨ off < 0 ∨ 8 ≤ off then 0#2
  else
    let o := if attrFlipH e.attr then 7 - off.toNat else off.toNat
    planeBits e.hi e.lo (7 - o)

/-- One iteration of the loop of R314, with the value of R315. -/
def sprScanStep (col : Byte) (e : SpriteEntry) (acc : SpritePixel) : SpritePixel :=
  let q := spritePattern e col
  if q = 0#2 then acc
  else { sp := 1#1 ++ attrPalette e.attr ++ q, front := !attrBehind e.attr, zero := e.id == 0#7 }

/-- R314, `SprScan`: from slot 7 down to slot 0, a later iteration overwrites an earlier one. -/
def sprScan (spr : SpriteBank) (col : Byte) : SpritePixel := spr.toList.foldr (sprScanStep col) SpritePixel.none

/-- R313, `SprPixel`. -/
def sprPixel (s : State) (col : Byte) : SpritePixel :=
  if !s.sprEnable || (decide (col.toNat < 8) && s.sprEdgeClip) then SpritePixel.none else sprScan s.spr col

/-- R317: the palette index chosen. -/
def pixelOut (rendering : Bool) (bg : BitVec 4) (q : SpritePixel) : BitVec 5 :=
  if !rendering then 0#5
  else if q.sp ≠ 0#5 ∧ (bg = 0#4 ∨ q.front = true) then q.sp
  else bg.setWidth 5

/-- R318: `{emphasis, PalRead(out)[5:0]}`. -/
def pixelValue (emphasis : BitVec 3) (colour : Byte) : Pixel := emphasis ++ colour.extractLsb' 0 6

/-- R310, PIXEL. -/
def execPixel (col : BitVec 8) (s : State) : Result :=
  let bg := bgPixel s col
  let q := sprPixel s col
  .next { s with
    spr0hit := s.spr0hit || zeroHits q.sp q.zero bg,
    fb := Memory.write s.fb (fbKey s.ly col) (pixelValue s.emphasis (palRead (pixelOut s.rendering bg q) s)) }

end Sys2Proof.Machine
end

