-- ==== Sys2Proof/Machine/PortReads.lean ====
section
/-! DEFINITION. The read transactions R0 to R7 (spec/40_port_reads.md). No read changes `bus_latch`, and none raises
anything. -/

namespace Sys2Proof.Machine

/-- The degenerate read: the stale latch (R116, R140). -/
def readLatch (port : BitVec 3) (s : State) : State := answer port s.busLatch s

/-- R140. -/
def execR0 (s : State) : Result := .next (readLatch 0#3 s)

/-- R141. -/
def execR1 (s : State) : Result := .next (readLatch 1#3 s)

/-- The byte a status read returns (R142, R43). -/
def statusValue (s : State) : Byte := statusByte s.vblank s.spr0hit s.sprovf s.busLatch

/-- R142: the flags as they were; then `vblank` is cleared, the line deasserted, `w` reset. -/
def execR2 (s : State) : Result :=
  .next (answer 2#3 (statusValue s) { irqSet false { s with vblank := false } with w := false })

/-- R143. -/
def execR3 (s : State) : Result := .next (readLatch 3#3 s)

/-- The byte an OAM-data read returns (R144). -/
def oamDataValue (s : State) : Byte :=
  if s.oamAddr.extractLsb' 0 2 = s.params.oamDataMaskSel then
    Memory.read s.oam s.oamAddr.toNat &&& s.params.oamDataMask
  else Memory.read s.oam s.oamAddr.toNat

/-- R144; the pointer does not move. -/
def execR4 (s : State) : Result := .next (answer 4#3 (oamDataValue s) s)

/-- R145; `w` is not toggled by a read. -/
def execR5 (s : State) : Result := .next (readLatch 5#3 s)

/-- R146. -/
def execR6 (s : State) : Result := .next (readLatch 6#3 s)

/-- R147, the one mapper read of an R7: from pattern memory below 0x2000, else from the nametable interface. -/
def refill (s : State) : Byte × State := memRead (portAddr s.v) s

/-- R147: the byte returned, buffered below 0x3F00, immediate in the palette range. -/
def dataReadValue (s : State) : Byte :=
  if (portAddr s.v).toNat < 0x3F00 then s.readBuffer else palRead ((portAddr s.v).extractLsb' 0 5) s

/-- R147. -/
def execR7 (s : State) : Result :=
  let r := refill s
  .next (answer 7#3 (dataReadValue s) (stepV { r.2 with readBuffer := r.1 }))

end Sys2Proof.Machine
end

