-- ==== Sys2Proof/Machine/PortWrites.lean ====
section
/-! DEFINITION. The write transactions W0 to W7 (spec/41_port_writes.md). Each begins with the common prologue R160
(`latchWrite`), and none raises anything. -/

namespace Sys2Proof.Machine

/-- R161: the control fields and `t[11:10]`, then the interrupt line from the new enable and the flag. -/
def execW0 (d : Byte) (s : State) : Result :=
  let s := latchWrite d s
  .next (irqSet (irqLevel (d.getLsbD 7) s.vblank)
    { s with
      nmiEnable := d.getLsbD 7, spriteSize := d.getLsbD 5, bgPatternSel := d.getLsbD 4, sprPatternSel := d.getLsbD 3,
      vramInc32 := d.getLsbD 2, t := tAfterControl s.t d })

/-- R162; bits 2 and 1 are stored inverted. -/
def execW1 (d : Byte) (s : State) : Result :=
  .next { latchWrite d s with
    emphasis := d.extractLsb' 5 3, sprEnable := d.getLsbD 4, bgEnable := d.getLsbD 3, sprEdgeClip := !d.getLsbD 2,
    bgEdgeClip := !d.getLsbD 1, grayscale := d.getLsbD 0 }

/-- R163: ignored but for the latch. -/
def execW2 (d : Byte) (s : State) : Result := .next (latchWrite d s)

/-- R164. -/
def execW3 (d : Byte) (s : State) : Result := .next { latchWrite d s with oamAddr := d }

/-- R165: stores all 8 bits, the pointer goes on modulo 256. -/
def execW4 (d : Byte) (s : State) : Result :=
  .next { latchWrite d s with oam := Memory.write s.oam s.oamAddr.toNat d, oamAddr := s.oamAddr + 1#8 }

/-- R166. -/
def execW5a (d : Byte) (s : State) : Result :=
  .next { latchWrite d s with x := d.extractLsb' 0 3, t := tAfterScrollFirst s.t d, w := true }

/-- R167. -/
def execW5b (d : Byte) (s : State) : Result :=
  .next { latchWrite d s with t := tAfterScrollSecond s.t d, w := false }

/-- R168. -/
def execW6a (d : Byte) (s : State) : Result :=
  .next { latchWrite d s with t := tAfterAddressFirst s.t d, w := true }

/-- R169: the new `t` is copied into `v`. -/
def execW6b (d : Byte) (s : State) : Result :=
  .next { latchWrite d s with t := tAfterAddressSecond s.t d, v := tAfterAddressSecond s.t d, w := false }

/-- R170; `read_buffer` is not changed. -/
def execW7 (d : Byte) (s : State) : Result := .next (stepV (memWrite (portAddr s.v) d (latchWrite d s)))

end Sys2Proof.Machine
end

