-- ==== Sys2Proof/Machine/Raster.lean ====
section
/-! DEFINITION. The raster state machine's own micro-operations (spec/44_raster_state_machine.md): line starts, the
synchronization check, the advance. -/

namespace Sys2Proof.Machine

/-- R247, SYNCCHK: `SyncExit()` when the scheduler requests it; no state of the core changes. -/
def execSyncchk (s : State) : Result :=
  match s.syncRequests with
  | true :: rest => .next (emit .syncExit { s with syncRequests := rest })
  | false :: rest => .next { s with syncRequests := rest }
  | [] => .next s

/-- R240, LS241. -/
def execLs241 (s : State) : Result := .next (irqSet s.nmiEnable { s with vblank := true })

/-- R241, LS261. -/
def execLs261 (s : State) : Result :=
  .next { irqSet false { s with vblank := false } with spr0hit := false, sprovf := false }

/-- R245, R246: the wrap from 261 to 0 toggles the parity and delivers the frame. -/
def wrapFrame (s : State) : State :=
  emit .frameEvent (emit (.frameReady s.fb) { s with lx := 0#9, ly := 0#9, parity := !s.parity })

/-- R243: "increment then check for 262". -/
def nextLine (s : State) : State :=
  if s.ly + 1#9 = 262#9 then wrapFrame s else { s with lx := 0#9, ly := s.ly + 1#9 }

/-- R242, ADVANCE. -/
def execAdvance (s : State) : Result :=
  let s1 := { s with clock := s.clock + s.params.clocksPerDot }
  .next (if endOfLine s then nextLine s1 else { s1 with lx := s1.lx + 1#9 })

end Sys2Proof.Machine
end

