-- ==== Sys2Proof/Machine/Scroll.lean ====
section
/-! DEFINITION. The raster agent's operations on `v` (spec/42_scroll_algebra.md R195 to R199): each executes only when
`rendering` is 1 at its dot; otherwise `v` stays. -/

namespace Sys2Proof.Machine

/-- R199: the new value of `v` if rendering is enabled, else the old one. -/
def setVIfRendering (v : VReg) (s : State) : State := if s.rendering then { s with v := v } else s

/-- R195, INCX. -/
def execIncx (s : State) : Result := .next (setVIfRendering (vAfterIncX s.v) s)

/-- R195, PINCX: the same operation at dots 327 and 335. -/
def execPincx (s : State) : Result := .next (setVIfRendering (vAfterIncX s.v) s)

/-- R196, INCY. -/
def execIncy (s : State) : Result := .next (setVIfRendering (vAfterIncY s.v) s)

/-- R197, COPYH. -/
def execCopyh (s : State) : Result := .next (setVIfRendering (vAfterCopyH s.v s.t) s)

/-- R198, COPYV. -/
def execCopyv (s : State) : Result := .next (setVIfRendering s.t s)

end Sys2Proof.Machine
end

