-- ==== Sys2Proof/Machine/SprFetch.lean ====
section
/-! DEFINITION. The sprite pattern fetch (spec/46_sprite_fetch.md R290 to R297). Slots are those of the output bank `SPR`;
a sentinel is fetched like any other entry (R294). -/

namespace Sys2Proof.Machine

/-- `SPR[slot]`. -/
def sprAt (slot : BitVec 3) (s : State) : SpriteEntry := s.spr[slot.toNat]'slot.isLt

/-- R295, SNTF. -/
def execSntf (s : State) : Result := .next (dummyFetch (ntAddr s.v) s)

/-- R295, SATF. -/
def execSatf (s : State) : Result := .next (dummyFetch (atAddr s.v) s)

/-- R296, SPLF. -/
def execSplf (slot : BitVec 3) (s : State) : Result :=
  let r := fetch (sprPatAddr s.spriteSize s.sprPatternSel (sprAt slot s) false) s
  .next { r.2 with spr := s.spr.set slot.toNat { sprAt slot s with lo := r.1 } slot.isLt }

/-- R297, SPHF. -/
def execSphf (slot : BitVec 3) (s : State) : Result :=
  let r := fetch (sprPatAddr s.spriteSize s.sprPatternSel (sprAt slot s) true) s
  .next { r.2 with spr := s.spr.set slot.toNat { sprAt slot s with hi := r.1 } slot.isLt }

end Sys2Proof.Machine
end

