-- ==== Sys2Proof/Machine/SpriteEval.lean ====
section
/-! DEFINITION. The sprite evaluator (spec/43_sprite_evaluator.md R211 to R216). -/

namespace Sys2Proof.Machine

/-- R211, PREFILL: eight sentinels, none filled; also when rendering is disabled. -/
def execPrefill (s : State) : Result :=
  .next { s with sec := Vector.replicate 8 SpriteEntry.sentinel, secCount := 0#4 }

/-- R213: the entry of sprite `n` for the line under way. -/
def evalEntry (n : BitVec 6) (s : State) : SpriteEntry :=
  { id := n.setWidth 7, row := BitVec.ofInt 4 (rowDiff s.ly (Memory.read s.oam (oamKey n 0))),
    tile := Memory.read s.oam (oamKey n 1), attr := Memory.read s.oam (oamKey n 2), x := Memory.read s.oam (oamKey n 3),
    lo := 0x00#8, hi := 0x00#8 }

/-- R213: a match is appended, or sets the overflow flag when eight are there. -/
def evalSprite (n : BitVec 6) (s : State) : State :=
  if spriteMatches s.spriteSize s.ly (Memory.read s.oam (oamKey n 0)) then
    if bankFull s.secCount then { s with sprovf := true }
    else { s with sec := s.sec.setIfInBounds s.secCount.toNat (evalEntry n s), secCount := s.secCount + 1#4 }
  else s

/-- R213, EVAL: nothing when rendering is disabled. -/
def execEval (n : BitVec 6) (s : State) : Result := .next (if s.rendering then evalSprite n s else s)

/-- R216, BANKCOPY: all fields, unconditionally. -/
def execBankcopy (s : State) : Result := .next { s with spr := s.sec }

end Sys2Proof.Machine
end

