-- ==== Sys2Proof/Machine/Dispatch.lean ====
section
/-! DEFINITION. Which meaning each instruction has. -/

namespace Sys2Proof.Machine

def exec (i : Instr) (s : State) : Host.Outcome State Fault Refusal :=
  match i with
  | .r0 => Sys2Proof.Machine.execR0 s
  | .r1 => Sys2Proof.Machine.execR1 s
  | .r2 => Sys2Proof.Machine.execR2 s
  | .r3 => Sys2Proof.Machine.execR3 s
  | .r4 => Sys2Proof.Machine.execR4 s
  | .r5 => Sys2Proof.Machine.execR5 s
  | .r6 => Sys2Proof.Machine.execR6 s
  | .r7 => Sys2Proof.Machine.execR7 s
  | .w0 d => Sys2Proof.Machine.execW0 d s
  | .w1 d => Sys2Proof.Machine.execW1 d s
  | .w2 d => Sys2Proof.Machine.execW2 d s
  | .w3 d => Sys2Proof.Machine.execW3 d s
  | .w4 d => Sys2Proof.Machine.execW4 d s
  | .w5a d => Sys2Proof.Machine.execW5a d s
  | .w5b d => Sys2Proof.Machine.execW5b d s
  | .w6a d => Sys2Proof.Machine.execW6a d s
  | .w6b d => Sys2Proof.Machine.execW6b d s
  | .w7 d => Sys2Proof.Machine.execW7 d s
  | .syncchk => Sys2Proof.Machine.execSyncchk s
  | .ls241 => Sys2Proof.Machine.execLs241 s
  | .ls261 => Sys2Proof.Machine.execLs261 s
  | .prefill => Sys2Proof.Machine.execPrefill s
  | .ntf => Sys2Proof.Machine.execNtf s
  | .atf => Sys2Proof.Machine.execAtf s
  | .plf => Sys2Proof.Machine.execPlf s
  | .phf => Sys2Proof.Machine.execPhf s
  | .pixel col => Sys2Proof.Machine.execPixel col s
  | .eval n => Sys2Proof.Machine.execEval n s
  | .reload => Sys2Proof.Machine.execReload s
  | .incx => Sys2Proof.Machine.execIncx s
  | .incy => Sys2Proof.Machine.execIncy s
  | .bankcopy => Sys2Proof.Machine.execBankcopy s
  | .copyh => Sys2Proof.Machine.execCopyh s
  | .copyv => Sys2Proof.Machine.execCopyv s
  | .sntf => Sys2Proof.Machine.execSntf s
  | .satf => Sys2Proof.Machine.execSatf s
  | .splf slot => Sys2Proof.Machine.execSplf slot s
  | .sphf slot => Sys2Proof.Machine.execSphf slot s
  | .pntf => Sys2Proof.Machine.execPntf s
  | .patf => Sys2Proof.Machine.execPatf s
  | .pplf => Sys2Proof.Machine.execPplf s
  | .pphf => Sys2Proof.Machine.execPphf s
  | .preload => Sys2Proof.Machine.execPreload s
  | .pincx => Sys2Proof.Machine.execPincx s
  | .idlef1 => Sys2Proof.Machine.execIdlef1 s
  | .idlef2 => Sys2Proof.Machine.execIdlef2 s
  | .advance => Sys2Proof.Machine.execAdvance s

end Sys2Proof.Machine
end

