-- ==== Sys2Proof/Machine/Sequence.lean ====
section
/-! DEFINITION. Sequencing: one action of a gap (spec/00_scope.md R7, R115), one dot step (spec/44_raster_state_machine.md
R231). -/

namespace Sys2Proof.Machine

/-- Executes instructions one after the other; each sees the writes of those before it (R10). -/
def runAll : List Instr → State → Result
  | [], s => .next s
  | i :: is, s =>
    match exec i s with
    | .next s' => runAll is s'
    | .fault f => .fault f
    | .refused r => .refused r

/-- R231: the dot step of the position, then the next gap opens. -/
def dotStep (s : State) : Result :=
  match runAll (decodeDot s.ly s.lx) s with
  | .next s' => .next (openGap s')
  | .fault f => .fault f
  | .refused r => .refused r

/-- R7: the first action of the gap, taken off it; a transaction is decoded under the present `w` (R115). -/
def gapStep (a : GapAction) (rest : List GapAction) (s : State) : Result :=
  match a with
  | .transaction word => exec (decodePort s.w word) { s with gap := rest }
  | .reset => .next (resetEvent { s with gap := rest })

/-- The selector of what the next step executes: the first transaction of the gap, else the position; none at a reset. -/
def nextSelector (s : State) : Option Selector :=
  match s.gap with
  | .transaction word :: _ => some (.port word)
  | .reset :: _ => none
  | [] => some (.dot s.ly s.lx)

/-- A line of the row's classes: the present one if the row is selected there, else the first that is. -/
def lineFor (r : DotRow) (ly lx : Dot) : Dot :=
  if dotSelects r ly lx then ly
  else
    match r.line with
    | some l => l
    | none => if r.classes = .p then 261#9 else 0#9

/-- Puts a table word where the next step takes its instruction from: a PORT word becomes the present gap, a DOT word the
raster position with an empty gap (log entry 12). -/
def placeWord (s : State) (nbits w : Nat) : State :=
  if tableIsDot nbits w then
    match tableDotRow (BitVec.ofNat 9 w) with
    | some r => { s with gap := [], ly := lineFor r s.ly (BitVec.ofNat 9 w), lx := BitVec.ofNat 9 w }
    | none => { s with gap := [], lx := BitVec.ofNat 9 w }
  else { s with gap := [.transaction (BitVec.ofNat 12 w)] }

end Sys2Proof.Machine
end

