-- ==== Sys2Proof/Machine/Step.lean ====
section
/-! DEFINITION. One step: the next action of the present gap if there is one, else one dot step (spec/00_scope.md R7,
spec/20_memory.md R89). -/

namespace Sys2Proof.Machine

/-- The steps of both agents in one total order (R89). -/
def step (s : State) : Host.Outcome State Fault Refusal :=
  match s.gap with
  | a :: rest => gapStep a rest s
  | [] => dotStep s

/-- The host's interface: the table word `w` stands where the next step takes its instruction from. -/
def State.withFetchWord (s : State) (nbits w : Nat) : State := placeWord s nbits w

end Sys2Proof.Machine
end

