-- ==== Sys2Proof/Safety.lean ====
section
/-! DEFINITION. The terms claims are stated in: what every reachable state meets, and what a run shows outside. Nothing in
this hardware faults (spec/60_exceptions.md R340), so a safe run is one that keeps these properties. -/

namespace Sys2Proof.Machine

/-! ### Invariants of one state -/

/-- The raster position exists: `ly` 0 to 261, `lx` 0 to 340 (R30). -/
abbrev State.PositionInRange (s : State) : Prop := s.ly.toNat ≤ 261 ∧ s.lx.toNat ≤ 340

/-- `irq_line = nmi_enable & vblank` (R36, R343). -/
abbrev State.IrqAgrees (s : State) : Prop := s.irqLine = (s.nmiEnable && s.vblank)

/-- The memories the core owns are in canonical form and hold only the cells they have (R45 to R47). -/
abbrev State.MemoriesWf (s : State) : Prop :=
  Memory.wf s.pal = true ∧ Memory.within 32 s.pal = true ∧
  Memory.wf s.oam = true ∧ Memory.within 256 s.oam = true ∧
  Memory.wf s.fb = true ∧ Memory.within 61440 s.fb = true

/-- `sec_count` is 0 to 8 (R54). -/
abbrev State.CountInRange (s : State) : Prop := s.secCount.toNat ≤ 8

/-- "The other bits are always zero": of `bg_at` only bits 9:8 and 1:0 are ever set (R51). -/
abbrev State.AttributeClean (s : State) : Prop := s.bgAt &&& 0xFCFC#16 = 0#16

/-- The structural invariant: everything above together. -/
abbrev State.Inv (s : State) : Prop :=
  s.PositionInRange ∧ s.IrqAgrees ∧ s.MemoriesWf ∧ s.CountInRange ∧ s.AttributeClean

/-- `vblank` is 1 only from the dot step of (241, 0) to that of (261, 0) (R240, R241, R390). -/
abbrev State.VblankInWindow (s : State) : Prop :=
  s.vblank = true →
    241 ≤ s.ly.toNat ∧ (s.ly.toNat = 241 → 1 ≤ s.lx.toNat) ∧ (261 ≤ s.ly.toNat → s.ly.toNat = 261 ∧ s.lx.toNat = 0)

/-- R215: of the filled slots of `SEC` a lower one holds a lower sprite number, each below 64; and on a rendering line
after its first dot, a filled slot's sprite has had its dot and an unfilled slot is the sentinel. -/
abbrev State.BankOrdered (s : State) : Prop :=
  s.secCount.toNat ≤ 8 ∧
  (∀ i j : Fin 8, i < j → j.val < s.secCount.toNat → (s.sec[i]).id.toNat < (s.sec[j]).id.toNat) ∧
  (∀ i : Fin 8, i.val < s.secCount.toNat → (s.sec[i]).id.toNat < 64) ∧
  (isRenderingLine s.ly = true → 0 < s.lx.toNat →
    (∀ i : Fin 8, i.val < s.secCount.toNat → 4 * (s.sec[i]).id.toNat + 3 < s.lx.toNat) ∧
    (∀ i : Fin 8, s.secCount.toNat ≤ i.val → s.sec[i] = SpriteEntry.sentinel))

/-- An entry that can show nothing: the sentinel's id, or two blank planes. -/
abbrev SpriteEntry.Blank (e : SpriteEntry) : Prop := e.id = 64#7 ∨ (e.lo = 0x00#8 ∧ e.hi = 0x00#8)

/-- R217 and R316 (7): the pre-render line fills no slot, the output bank is blank from its dot 257 to the end of dot 255
of scanline 0, and no sprite-zero hit stands after the first dot of the pre-render line or on scanline 0. -/
abbrev State.NoSpriteOnLineZero (s : State) : Prop :=
  (s.ly = 261#9 → 0 < s.lx.toNat → s.spr0hit = false ∧ ∀ i : Fin 8, s.sec[i] = SpriteEntry.sentinel) ∧
  (s.ly = 261#9 → 256 < s.lx.toNat → ∀ i : Fin 8, (s.spr[i]).id = 64#7) ∧
  (s.ly = 0#9 → s.spr0hit = false) ∧
  (s.ly = 0#9 → s.lx.toNat ≤ 256 → ∀ i : Fin 8, SpriteEntry.Blank s.spr[i])

/-! ### What a run shows outside -/

/-- The calls the mapper sees (R74, R75). -/
def Event.isMapperCall : Event → Bool
  | .patRead _ _ => true
  | .ntRead _ _ => true
  | .patWrite _ _ => true
  | .ntWrite _ _ => true
  | _ => false

/-- How many calls the mapper has seen. -/
def State.mapperCalls (s : State) : Nat := s.log.countP Event.isMapperCall

/-- The CPU asks for nothing: no action in the present gap or in any later one (an instantiation of `CPU_SCHEDULE`, log
entry 2). -/
abbrev State.CpuIdle (s : State) : Prop := s.gap = [] ∧ s.schedule = [] ∧ s.cpu = .idle

/-- The raster position as one number: the dots of the frame before it, on a frame with no skipped dot (R248). -/
def State.framePosition (s : State) : Nat := 341 * s.ly.toNat + s.lx.toNat

/-- `n` steps of either agent, stopping at the first that does not answer a next state. -/
def runSteps : Nat → State → Result
  | 0, s => .next s
  | n + 1, s =>
    match step s with
    | .next s' => runSteps n s'
    | .fault f => .fault f
    | .refused r => .refused r

/-! ### The spec's tables as plain arithmetic, for statements to compare the model with -/

/-- One instruction where a condition holds. -/
def whenever (c : Prop) [Decidable c] (i : Instr) : List Instr := if c then [i] else []

/-- The memory access of a dot of a rendering line (R231 step 2b, R250, R251). -/
def accessOf (lx : Nat) : List Instr :=
  if lx ≤ 255 then
    whenever (lx % 8 = 0) .ntf ++ whenever (lx % 8 = 2) .atf ++ whenever (lx % 8 = 4) .plf ++ whenever (lx % 8 = 6) .phf
  else if lx ≤ 319 then
    whenever (lx % 8 = 0) .sntf ++ whenever (lx % 8 = 2) .satf ++
    whenever (lx % 8 = 4) (.splf (BitVec.ofNat 3 ((lx - 256) / 8))) ++
    whenever (lx % 8 = 6) (.sphf (BitVec.ofNat 3 ((lx - 256) / 8)))
  else if lx ≤ 335 then
    whenever (lx % 8 = 0) .pntf ++ whenever (lx % 8 = 2) .patf ++ whenever (lx % 8 = 4) .pplf ++
    whenever (lx % 8 = 6) .pphf
  else whenever (lx = 336) .idlef1 ++ whenever (lx = 338) .idlef2

/-- The end of a tile group (R231 step 2e, R250). -/
def groupEndOf (lx : Nat) : List Instr :=
  if lx ≤ 255 then whenever (lx % 8 = 7) .reload ++ whenever (lx % 8 = 7) .incx ++ whenever (lx = 255) .incy
  else if 320 ≤ lx ∧ lx ≤ 335 then whenever (lx % 8 = 7) .preload ++ whenever (lx % 8 = 7) .pincx
  else []

/-- What the dot step of `(ly, lx)` executes, in order, written from the pseudocode of R231. -/
def dotScheduleOf (ly lx : Nat) : List Instr :=
  whenever (lx = 0) .syncchk ++ whenever (lx = 0 ∧ ly = 241) .ls241 ++ whenever (lx = 0 ∧ ly = 261) .ls261 ++
  (if ly ≤ 239 ∨ ly = 261 then
    whenever (lx = 0) .prefill ++ whenever (lx = 256) .bankcopy ++ whenever (lx = 257) .copyh ++
    whenever (ly = 261 ∧ lx = 304) .copyv ++ accessOf lx ++
    whenever (ly ≤ 239 ∧ lx ≤ 255) (.pixel (BitVec.ofNat 8 lx)) ++
    whenever (lx ≤ 255 ∧ lx % 4 = 3) (.eval (BitVec.ofNat 6 (lx / 4))) ++ groupEndOf lx
  else []) ++ [.advance]

/-- The sprites of `OAM` that match on the present line, in order of number (R210, R212). -/
def State.matchingSprites (s : State) : List (BitVec 6) :=
  ((List.range 64).map (BitVec.ofNat 6)).filter
    (fun n => spriteMatches s.spriteSize s.ly (Memory.read s.oam (oamKey n 0)))

/-- PREFILL and the 64 EVAL of a rendering line in order (R210, R211). -/
def evaluationOfLine : List Instr := .prefill :: (List.range 64).map (fun n => .eval (BitVec.ofNat 6 n))

/-- The sprite pattern address in the arithmetic form of R292 and R293, plane 0 or 1. -/
def spriteFetchAddr (s : State) (e : SpriteEntry) (plane : Nat) : Nat :=
  let flip := e.attr.toNat / 128 = 1
  if s.spriteSize then
    let r := if flip then 15 - e.row.toNat else e.row.toNat
    4096 * (e.tile.toNat % 2) + 32 * (e.tile.toNat / 2) + 16 * (r / 8) + 8 * plane + r % 8
  else
    let r := if flip then 7 - e.row.toNat % 8 else e.row.toNat % 8
    4096 * s.sprPatternSel.toNat + 16 * e.tile.toNat + 8 * plane + r

/-- Bit `i` as a number. -/
def bitOf {n : Nat} (b : BitVec n) (i : Nat) : Nat := b.toNat / 2 ^ i % 2

/-- The pattern value of R314 in numbers: 0 where the entry is the sentinel, does not cover the column, or is transparent. -/
def entryPatternOf (e : SpriteEntry) (col : Nat) : Nat :=
  if e.id.toNat = 64 ∨ col < e.x.toNat ∨ e.x.toNat + 8 ≤ col then 0
  else
    let off := col - e.x.toNat
    let off := if e.attr.toNat / 64 % 2 = 1 then 7 - off else off
    2 * bitOf e.hi (7 - off) + bitOf e.lo (7 - off)

/-- `PalRead` (R78) of a palette index. -/
def paletteColourOf (s : State) (i : BitVec 5) : Byte :=
  let cell := Memory.read s.pal (paletteFold s.params.paletteMirror i).toNat
  if s.grayscale then cell &&& 0x30#8 else cell

/-! ### Who owns what (R20 to R57, the reach table R82) -/

/-- The two states agree on everything only port transactions write: `t`, `x`, `w`, the latch, the read buffer, the OAM
pointer, the control and mask fields, `PAL`, `OAM`; and on what no step writes. -/
def SameCpuSide (s s' : State) : Prop :=
  s'.t = s.t ∧ s'.x = s.x ∧ s'.w = s.w ∧ s'.busLatch = s.busLatch ∧ s'.readBuffer = s.readBuffer ∧
  s'.oamAddr = s.oamAddr ∧ s'.nmiEnable = s.nmiEnable ∧ s'.spriteSize = s.spriteSize ∧
  s'.bgPatternSel = s.bgPatternSel ∧ s'.sprPatternSel = s.sprPatternSel ∧ s'.vramInc32 = s.vramInc32 ∧
  s'.grayscale = s.grayscale ∧ s'.bgEdgeClip = s.bgEdgeClip ∧ s'.sprEdgeClip = s.sprEdgeClip ∧
  s'.bgEnable = s.bgEnable ∧ s'.sprEnable = s.sprEnable ∧ s'.emphasis = s.emphasis ∧ s'.pal = s.pal ∧
  s'.oam = s.oam ∧ s'.params = s.params ∧ s'.mapper = s.mapper ∧ s'.cpu = s.cpu

/-- The two states agree on everything only the raster agent writes: the position, the parity, the clock, the sprite
flags, the frame buffer, the pipeline registers and the sprite banks; and on the parameters, the scheduler's answers and who
the CPU is, the model's own fields. -/
def SameRasterSide (s s' : State) : Prop :=
  s'.ly = s.ly ∧ s'.lx = s.lx ∧ s'.parity = s.parity ∧ s'.clock = s.clock ∧ s'.spr0hit = s.spr0hit ∧
  s'.sprovf = s.sprovf ∧ s'.fb = s.fb ∧ s'.bgLo = s.bgLo ∧ s'.bgHi = s.bgHi ∧ s'.bgAt = s.bgAt ∧ s'.sec = s.sec ∧
  s'.spr = s.spr ∧ s'.secCount = s.secCount ∧ s'.ntLatch = s.ntLatch ∧ s'.atLatch = s.atLatch ∧
  s'.loLatch = s.loLatch ∧ s'.hiLatch = s.hiLatch ∧ s'.params = s.params ∧ s'.syncRequests = s.syncRequests ∧
  s'.cpu = s.cpu

end Sys2Proof.Machine
end

