-- ==== Sys2Proof/Certificates/Slice0/Obligations.lean ====
section
/-! DEFINITION. The statements about the model, for the provers. Each says which rules of spec/ it formalises. -/

open Sys2Proof Sys2Proof.Machine

/-! ### Port reads (spec/40_port_reads.md) -/

/-- R140, R141, R143, R145, R146: the reads of the write-only ports return the latch and change nothing else. -/
def Obligations.LatchReadsReturnTheStaleLatch : Prop :=
  ∀ s : State,
    exec .r0 s = .next { s with log := .portRead 0#3 s.busLatch :: s.log } ∧
    exec .r1 s = .next { s with log := .portRead 1#3 s.busLatch :: s.log } ∧
    exec .r3 s = .next { s with log := .portRead 3#3 s.busLatch :: s.log } ∧
    exec .r5 s = .next { s with log := .portRead 5#3 s.busLatch :: s.log } ∧
    exec .r6 s = .next { s with log := .portRead 6#3 s.busLatch :: s.log }

/-- R142: the status byte as it was before the clear, and the three things cleared. -/
def Obligations.StatusReadReturnsFlagsAndClears : Prop :=
  ∀ s : State, ∃ value : Byte,
    value.toNat = 128 * s.vblank.toNat + 64 * s.spr0hit.toNat + 32 * s.sprovf.toNat + s.busLatch.toNat % 32 ∧
    exec .r2 s = .next { s with
      vblank := false, irqLine := false, w := false, log := .portRead 2#3 value :: .irqSet false :: s.log }

/-- R144: the byte at the pointer, masked where the pointer's low two bits equal the parameter; nothing else changes. -/
def Obligations.OamDataReadIsMasked : Prop :=
  ∀ s : State,
    let cell := Memory.read s.oam s.oamAddr.toNat
    let value := if s.oamAddr.toNat % 4 = s.params.oamDataMaskSel.toNat then cell &&& s.params.oamDataMask else cell
    exec .r4 s = .next { s with log := .portRead 4#3 value :: s.log }

/-- R147: buffered below 0x3F00, immediate above, one mapper read at the 14-bit address, then the increment of all 15
bits. -/
def Obligations.DataReadIsBufferedBelowThePalette : Prop :=
  ∀ s : State,
    let a := s.v.toNat % 0x4000
    let reply := mapperReply s (BitVec.ofNat 14 a)
    let call := if a < 0x2000 then Event.patRead (BitVec.ofNat 14 a) reply else Event.ntRead (BitVec.ofNat 14 a) reply
    let value := if a < 0x3F00 then s.readBuffer else paletteColourOf s (BitVec.ofNat 5 (a % 32))
    exec .r7 s = .next { s with
      readBuffer := reply, v := BitVec.ofNat 15 (s.v.toNat + if s.vramInc32 then 32 else 1),
      log := .portRead 7#3 value :: call :: s.log }

/-! ### Port writes (spec/41_port_writes.md) -/

/-- R160: every write word, for all 8 ports and either phase, completes and leaves its data byte in the latch. -/
def Obligations.EveryWriteUpdatesTheLatch : Prop :=
  ∀ (s : State) (phase : Bool) (port : BitVec 3) (d : Byte),
    ∃ s', exec (decodePort phase (portWord true port.toNat d)) s = .next s' ∧ s'.busLatch = d

/-- R161: the control fields, the nametable bits of `t`, the interrupt line from the new enable and the flag. -/
def Obligations.ControlWriteSetsFieldsAndLine : Prop :=
  ∀ (s : State) (d : Byte),
    exec (.w0 d) s = .next { s with
      busLatch := d, nmiEnable := d.getLsbD 7, spriteSize := d.getLsbD 5, bgPatternSel := d.getLsbD 4,
      sprPatternSel := d.getLsbD 3, vramInc32 := d.getLsbD 2,
      t := (s.t &&& 0x73FF#15) ||| ((d &&& 0x03#8).setWidth 15 <<< 10),
      irqLine := d.getLsbD 7 && s.vblank, log := .irqSet (d.getLsbD 7 && s.vblank) :: s.log }

/-- R162: the mask fields; bits 2 and 1 are stored inverted. -/
def Obligations.MaskWriteSetsFields : Prop :=
  ∀ (s : State) (d : Byte),
    exec (.w1 d) s = .next { s with
      busLatch := d, emphasis := BitVec.ofNat 3 (d.toNat / 32), sprEnable := d.getLsbD 4, bgEnable := d.getLsbD 3,
      sprEdgeClip := !d.getLsbD 2, bgEdgeClip := !d.getLsbD 1, grayscale := d.getLsbD 0 }

/-- R163, R164: a status write changes the latch only, an OAM-address write sets the pointer. -/
def Obligations.StatusWriteIgnoredAndOamAddressSet : Prop :=
  ∀ (s : State) (d : Byte),
    exec (.w2 d) s = .next { s with busLatch := d } ∧
    exec (.w3 d) s = .next { s with busLatch := d, oamAddr := d }

/-- R165: the byte is stored at the pointer, every other byte of `OAM` reads as before, the pointer goes on modulo 256. -/
def Obligations.OamDataWriteStoresAndAdvances : Prop :=
  ∀ (s : State) (d : Byte), Memory.wf s.oam = true →
    ∃ oam', exec (.w4 d) s = .next { s with
        busLatch := d, oam := oam', oamAddr := BitVec.ofNat 8 (s.oamAddr.toNat + 1) } ∧
      Memory.wf oam' = true ∧
      ∀ a, Memory.read oam' a = if a = s.oamAddr.toNat then d else Memory.read s.oam a

/-- R166, R167: the two phases of the scroll port. -/
def Obligations.ScrollWritesSplitTheByte : Prop :=
  ∀ (s : State) (d : Byte),
    exec (.w5a d) s = .next { s with
      busLatch := d, x := BitVec.ofNat 3 (d.toNat % 8), t := (s.t &&& 0x7FE0#15) ||| (d >>> 3).setWidth 15, w := true } ∧
    exec (.w5b d) s = .next { s with
      busLatch := d, w := false,
      t := (s.t &&& 0x0C1F#15) ||| ((d &&& 0x07#8).setWidth 15 <<< 12) ||| ((d >>> 3).setWidth 15 <<< 5) }

/-- R168, R169: the two phases of the address port; the second commits `v`. -/
def Obligations.AddressWritesCommitV : Prop :=
  ∀ (s : State) (d : Byte),
    exec (.w6a d) s = .next { s with
      busLatch := d, t := (s.t &&& 0x00FF#15) ||| ((d &&& 0x3F#8).setWidth 15 <<< 8), w := true } ∧
    exec (.w6b d) s = .next { s with
      busLatch := d, t := (s.t &&& 0x7F00#15) ||| d.setWidth 15, v := (s.t &&& 0x7F00#15) ||| d.setWidth 15, w := false }

/-- R170: the byte goes to pattern memory, nametable memory or the palette by the 14-bit address; then the increment. In the
palette range every other cell reads as before. What the mapper's own memory becomes is the model's choice (log entry 5). -/
def Obligations.DataWriteGoesThroughByAddress : Prop :=
  ∀ (s : State) (d : Byte),
    let a := s.v.toNat % 0x4000
    let v' := BitVec.ofNat 15 (s.v.toNat + if s.vramInc32 then 32 else 1)
    let m' := mapperAfterWrite (BitVec.ofNat 14 a) d s.mapper
    if a < 0x2000 then
      exec (.w7 d) s = .next { s with busLatch := d, v := v', mapper := m', log := .patWrite (BitVec.ofNat 14 a) d :: s.log }
    else if a < 0x3F00 then
      exec (.w7 d) s = .next { s with busLatch := d, v := v', mapper := m', log := .ntWrite (BitVec.ofNat 14 a) d :: s.log }
    else
      Memory.wf s.pal = true →
        ∃ pal', exec (.w7 d) s = .next { s with busLatch := d, v := v', pal := pal' } ∧ Memory.wf pal' = true ∧
          ∀ k, Memory.read pal' k =
            if k = (paletteFold s.params.paletteMirror (BitVec.ofNat 5 (a % 32))).toNat then d else Memory.read s.pal k

/-- R166, R167 through two steps of a gap: from `w` = 0 the scroll pair A, B lays out fine x, coarse X, fine Y and coarse Y,
keeps the nametable bits of `t`, and leaves `v`. -/
def Obligations.ScrollPairLaysOutT : Prop :=
  ∀ (s : State) (a b : Byte) (rest : List GapAction),
    s.w = false → s.gap = traceWrite 5 a :: traceWrite 5 b :: rest →
    ∃ s', runSteps 2 s = .next s' ∧
      s'.x.toNat = a.toNat % 8 ∧
      s'.t.toNat = 4096 * (b.toNat % 8) + 1024 * (s.t.toNat / 1024 % 4) + 32 * (b.toNat / 8) + a.toNat / 8 ∧
      s'.w = false ∧ s'.v = s.v ∧ s'.gap = rest

/-- R120, `ADDR a`: a status read and two address writes set `t` and `v` to `a`, whatever the toggle was. -/
def Obligations.AddressPairSetsV : Prop :=
  ∀ (s : State) (a : VAddr) (rest : List GapAction),
    s.gap = traceAddr a ++ rest →
    ∃ s', runSteps 3 s = .next s' ∧ s'.v.toNat = a.toNat ∧ s'.t.toNat = a.toNat ∧ s'.w = false ∧
      s'.vblank = false ∧ s'.irqLine = false ∧ s'.gap = rest

/-- R79, R78, R147, R170: a byte poked into the palette range reads back at once through port 7, under the grayscale mask,
whatever the palette fold is. -/
def Obligations.PalettePokeReadsBack : Prop :=
  ∀ (s : State) (a : VAddr) (d : Byte) (rest : List GapAction),
    Memory.wf s.pal = true → 0x3F00 ≤ a.toNat → s.gap = tracePoke a d ++ tracePeekPal a ++ rest →
    ∃ s', runSteps 8 s = .next s' ∧
      s'.log.head? = some (.portRead 7#3 (if s.grayscale then d &&& 0x30#8 else d)) ∧ s'.gap = rest

/-! ### Scroll algebra (spec/42_scroll_algebra.md) -/

/-- R195: coarse X plus 1, from 31 to 0 with a toggle of bit 10, and no other bit; only when rendering is enabled. -/
def Obligations.IncXStepsCoarseX : Prop :=
  ∀ s : State,
    let v' := if s.v &&& 0x001F#15 = 0x001F#15 then (s.v &&& 0x7FE0#15) ^^^ 0x0400#15 else s.v + 1#15
    let s' := if s.bgEnable || s.sprEnable then { s with v := v' } else s
    exec .incx s = .next s' ∧ exec .pincx s = .next s'

/-- R196: fine Y plus 1; from 7 it steps coarse Y, 29 to 0 with a toggle of bit 11, 31 to 0 without, 30 to 31. -/
def Obligations.IncYStepsFineThenCoarseY : Prop :=
  ∀ s : State,
    let cy := s.v.toNat / 32 % 32
    let v' :=
      if s.v.toNat / 4096 < 7 then s.v + 0x1000#15
      else if cy = 29 then (s.v &&& 0x0C1F#15) ^^^ 0x0800#15
      else if cy = 31 then s.v &&& 0x0C1F#15
      else (s.v &&& 0x0FFF#15) + 0x0020#15
    exec .incy s = .next (if s.bgEnable || s.sprEnable then { s with v := v' } else s)

/-- R197, R198: COPYH takes bits 4:0 and 10 of `t`, COPYV all of `t`; only when rendering is enabled. -/
def Obligations.CopiesTakeBitsOfT : Prop :=
  ∀ s : State,
    (∃ v', exec .copyh s = .next (if s.bgEnable || s.sprEnable then { s with v := v' } else s) ∧
      ∀ i : Fin 15, v'.getLsbD i.val = if i.val < 5 ∨ i.val = 10 then s.t.getLsbD i.val else s.v.getLsbD i.val) ∧
    exec .copyv s = .next (if s.bgEnable || s.sprEnable then { s with v := s.t } else s)

/-- R94, R199: with rendering disabled a dot step never writes `v` and makes no mapper call. -/
def Obligations.RenderingOffLeavesVAndMapperAlone : Prop :=
  ∀ s : State, s.gap = [] → s.rendering = false →
    ∃ s', step s = .next s' ∧ s'.v = s.v ∧ s'.mapperCalls = s.mapperCalls

/-! ### Sprite evaluator (spec/43_sprite_evaluator.md) -/

/-- R211, R216: PREFILL makes eight sentinels and an empty count; BANKCOPY copies every field of every slot. -/
def Obligations.PrefillAndBankCopy : Prop :=
  ∀ s : State,
    (∃ sec', exec .prefill s = .next { s with sec := sec', secCount := 0#4 } ∧
      ∀ i : Fin 8, sec'[i] = { id := 64#7, row := 0#4, tile := 0xFF#8, attr := 0x00#8, x := 0xFF#8, lo := 0x00#8, hi := 0x00#8 }) ∧
    (∃ spr', exec .bankcopy s = .next { s with spr := spr' } ∧ ∀ i : Fin 8, spr'[i] = s.sec[i])

/-- R212, R213: the four outcomes of one EVAL, with the row difference a mathematical integer. -/
def Obligations.EvalAppendsOrOverflows : Prop :=
  ∀ (n : BitVec 6) (s : State), s.secCount.toNat ≤ 8 →
    let k := 4 * n.toNat
    let line : Int := if s.ly.toNat = 261 then -1 else s.ly.toNat
    let diff : Int := line - (Memory.read s.oam k).toNat
    let height : Int := if s.spriteSize then 16 else 8
    (s.rendering = false → exec (.eval n) s = .next s) ∧
    (¬ (0 ≤ diff ∧ diff < height) → exec (.eval n) s = .next s) ∧
    (s.rendering = true → 0 ≤ diff → diff < height → s.secCount.toNat = 8 →
      exec (.eval n) s = .next { s with sprovf := true }) ∧
    (s.rendering = true → 0 ≤ diff → diff < height → (h : s.secCount.toNat < 8) →
      ∃ row : BitVec 4, (row.toNat : Int) = diff ∧
        exec (.eval n) s = .next { s with
          sec := s.sec.set s.secCount.toNat
            { id := BitVec.ofNat 7 n.toNat, row := row, tile := Memory.read s.oam (k + 1),
              attr := Memory.read s.oam (k + 2), x := Memory.read s.oam (k + 3), lo := 0x00#8, hi := 0x00#8 } h,
          secCount := BitVec.ofNat 4 (s.secCount.toNat + 1) })

/-- R214 and its quoted property: the evaluation of a line with rendering enabled selects exactly the first eight matching
sprites in order, pads with the sentinel, and sets the overflow flag when there are more; nothing else changes. -/
def Obligations.EvaluationSelectsTheFirstEight : Prop :=
  ∀ s : State, s.rendering = true →
    ∃ sec', runAll evaluationOfLine s = .next { s with
        sec := sec', secCount := BitVec.ofNat 4 (min 8 s.matchingSprites.length),
        sprovf := s.sprovf || decide (8 < s.matchingSprites.length) } ∧
      ∀ i : Fin 8, sec'[i] =
        match s.matchingSprites[i.val]? with
        | some n => evalEntry n s
        | none => SpriteEntry.sentinel

/-! ### Raster state machine (spec/44_raster_state_machine.md) -/

/-- R240, R241: the line starts of 241 and 261. -/
def Obligations.LineStartsDriveFlagsAndLine : Prop :=
  ∀ s : State,
    exec .ls241 s = .next { s with vblank := true, irqLine := s.nmiEnable, log := .irqSet s.nmiEnable :: s.log } ∧
    exec .ls261 s = .next { s with
      vblank := false, irqLine := false, spr0hit := false, sprovf := false, log := .irqSet false :: s.log }

/-- R247: the check consumes the scheduler's answer, makes the call when it is a request, and changes no state of the
core. The list of answers is the model's own input (log entry 8). -/
def Obligations.SyncCheckOnlyCallsOut : Prop :=
  ∀ s : State,
    (s.syncRequests.head? = some true →
      exec .syncchk s = .next { s with syncRequests := s.syncRequests.tail, log := .syncExit :: s.log }) ∧
    (s.syncRequests.head? ≠ some true → exec .syncchk s = .next { s with syncRequests := s.syncRequests.tail })

/-- R242, R243, R245: the advance of the clock and the position, the end of a line, the wrap with its parity toggle and its
calls. -/
def Obligations.AdvanceMovesThePosition : Prop :=
  ∀ s : State,
    let c := s.clock + s.params.clocksPerDot
    let ends := s.lx = 340#9 ∨
      (s.lx = 339#9 ∧ s.ly = 261#9 ∧ s.parity = true ∧ (s.bgEnable = true ∨ s.sprEnable = true))
    (¬ ends → exec .advance s = .next { s with clock := c, lx := s.lx + 1#9 }) ∧
    (ends → s.ly ≠ 261#9 → exec .advance s = .next { s with clock := c, lx := 0#9, ly := s.ly + 1#9 }) ∧
    (ends → s.ly = 261#9 →
      exec .advance s = .next { s with
        clock := c, lx := 0#9, ly := 0#9, parity := !s.parity, log := .frameEvent :: .frameReady s.fb :: s.log })

/-- R244: from (261, 339) an odd frame with rendering enabled goes to (0, 0), every other frame to (261, 340) and from there
to (0, 0). -/
def Obligations.OddRenderedFrameSkipsItsLastDot : Prop :=
  ∀ s : State, s.gap = [] → s.ly = 261#9 →
    (s.lx = 339#9 → ∃ s', step s = .next s' ∧
      ((s.parity && s.rendering) = true → s'.ly = 0#9 ∧ s'.lx = 0#9 ∧ s'.parity = false) ∧
      ((s.parity && s.rendering) = false → s'.ly = 261#9 ∧ s'.lx = 340#9 ∧ s'.parity = s.parity)) ∧
    (s.lx = 340#9 → ∃ s', step s = .next s' ∧ s'.ly = 0#9 ∧ s'.lx = 0#9 ∧ s'.parity = !s.parity)

/-- R231, R117: the position selects exactly the micro-operations of the dot step's pseudocode, in its order. The condition
`rendering`, which R231 writes beside COPYH, COPYV, EVAL, INCX and INCY and R117 beside their rows, is
no part of this selection: the model evaluates it in the meaning (log entry 13), whose statements name it. That EVAL, SPLF, SPHF and PIXEL
carry fields of `lx` as operands is log entry 14. -/
def Obligations.DotStepSelectsInOrder : Prop :=
  ∀ ly lx : Nat, ly ≤ 261 → lx ≤ 340 → decodeDot (BitVec.ofNat 9 ly) (BitVec.ofNat 9 lx) = dotScheduleOf ly lx

/-- R7, R89, R115, R231, R370: a step is the first action of the gap, decoded under the present `w`; with an empty gap it is
the selected micro-operations one after the other, and then the next gap opens. That the gap's actions come first, one a step,
is read from R7 and R89 (log entry 1); the form of the gap and the schedule is the model's choice (log entry 2), and so is a reset
as an action of the gap (log entry 15). -/
def Obligations.StepRunsTheDecodedInstruction : Prop :=
  (∀ (s : State) (word : PortWord) (rest : List GapAction), s.gap = .transaction word :: rest →
    step s = exec (decodePort s.w word) { s with gap := rest }) ∧
  (∀ (s : State) (rest : List GapAction), s.gap = .reset :: rest → step s = .next (resetEvent { s with gap := rest })) ∧
  (∀ s m : State, s.gap = [] → runAll (decodeDot s.ly s.lx) s = .next m →
    step s = .next { m with
      log := .handOver :: m.log, gap := nextGap { m with log := .handOver :: m.log }, schedule := m.schedule.tail }) ∧
  (∀ (s : State) (g : List GapAction) (gs : List (List GapAction)), s.schedule = g :: gs → nextGap s = g) ∧
  (∀ s : State, s.schedule = [] → s.cpu = .free → nextGap s = Config.gapActions s.log s.irqLine) ∧
  (∀ (i : Instr) (is : List Instr) (s m : State), exec i s = .next m → runAll (i :: is) s = runAll is m)

/-- R233: a dot of lines 240 to 260 is the line-start actions of its dot 0 (SYNCCHK, and LS241 on line 241) and ADVANCE,
after which the next gap opens; past dot 0 it is ADVANCE alone. It changes neither `v` nor the banks, the pipeline, the picture
or the sprite flags, calls no mapper, and keeps the CPU's side. R233's last sentence, that `vblank`
is not yet set on line 240, is part of VblankStaysInItsWindow. -/
def Obligations.PostRenderLinesOnlyAdvance : Prop :=
  ∀ s : State, s.gap = [] → 240 ≤ s.ly.toNat → s.ly.toNat ≤ 260 → s.lx.toNat ≤ 340 →
    ∃ s', step s = .next s' ∧
      s'.v = s.v ∧ s'.sec = s.sec ∧ s'.spr = s.spr ∧ s'.secCount = s.secCount ∧ s'.bgLo = s.bgLo ∧ s'.bgHi = s.bgHi ∧
      s'.bgAt = s.bgAt ∧ s'.ntLatch = s.ntLatch ∧ s'.atLatch = s.atLatch ∧ s'.loLatch = s.loLatch ∧
      s'.hiLatch = s.hiLatch ∧ s'.fb = s.fb ∧ s'.spr0hit = s.spr0hit ∧ s'.sprovf = s.sprovf ∧
      s'.mapperCalls = s.mapperCalls ∧ SameCpuSide s s' ∧
      (¬ (s.ly.toNat = 241 ∧ s.lx.toNat = 0) → s'.vblank = s.vblank ∧ s'.irqLine = s.irqLine) ∧
      (s.lx.toNat ≠ 0 → ∃ m, exec .advance s = .next m ∧ s' = openGap m ∧
        s'.log = .handOver :: s.log ∧ s'.syncRequests = s.syncRequests) ∧
      (s.lx.toNat = 0 → s.ly.toNat ≠ 241 → ∃ a m, exec .syncchk s = .next a ∧ exec .advance a = .next m ∧ s' = openGap m) ∧
      (s.lx.toNat = 0 → s.ly.toNat = 241 →
        ∃ a b m, exec .syncchk s = .next a ∧ exec .ls241 a = .next b ∧ exec .advance b = .next m ∧ s' = openGap m)

/-- R248, which the spec marks as derived from R230, R242 and R244: with an idle CPU (the model's instantiation of
`CPU_SCHEDULE`, log entry 2) a frame from (0, 0) is 89342 dot steps,
the `n`-th at position `n`; an odd frame with rendering enabled is 89341. -/
def Obligations.FrameIsExactlyAsLongAsStated : Prop :=
  ∀ s : State, s.CpuIdle → s.ly = 0#9 → s.lx = 0#9 →
    ((s.parity && s.rendering) = false →
      (∀ n, n < 89342 → ∃ s', runSteps n s = .next s' ∧ s'.framePosition = n ∧ s'.parity = s.parity) ∧
      ∃ s', runSteps 89342 s = .next s' ∧ s'.ly = 0#9 ∧ s'.lx = 0#9 ∧ s'.parity = !s.parity) ∧
    ((s.parity && s.rendering) = true →
      (∀ n, n < 89341 → ∃ s', runSteps n s = .next s' ∧ s'.framePosition = n ∧ s'.parity = s.parity) ∧
      ∃ s', runSteps 89341 s = .next s' ∧ s'.ly = 0#9 ∧ s'.lx = 0#9 ∧ s'.parity = !s.parity)

/-! ### Background fetch (spec/45_background_fetch.md) -/

/-- R271: the nametable byte at `0x2000 | (v & 0x0FFF)`, or 0x00 with no call when rendering is disabled. -/
def Obligations.NametableFetchFillsItsLatch : Prop :=
  ∀ s : State,
    let a := BitVec.ofNat 14 (0x2000 + s.v.toNat % 0x1000)
    let s' := if s.rendering then { s with ntLatch := mapperReply s a, log := .ntRead a (mapperReply s a) :: s.log }
      else { s with ntLatch := 0x00#8 }
    exec .ntf s = .next s' ∧ exec .pntf s = .next s'

/-- R272: the attribute byte's address, the shift of its quadrant, and the two bits taken. -/
def Obligations.AttributeFetchSelectsTheQuadrant : Prop :=
  ∀ s : State,
    let n := s.v.toNat
    let a := BitVec.ofNat 14 (0x23C0 + 1024 * (n / 1024 % 4) + 8 * (n / 128 % 8) + n / 4 % 8)
    let shift := 4 * (n / 64 % 2) + 2 * (n / 2 % 2)
    let s' := if s.rendering then
        { s with atLatch := BitVec.ofNat 2 ((mapperReply s a).toNat / 2 ^ shift), log := .ntRead a (mapperReply s a) :: s.log }
      else { s with atLatch := 0#2 }
    exec .atf s = .next s' ∧ exec .patf s = .next s'

/-- R273, R274, R275: the two pattern planes, at addresses 8 apart in the background's table. -/
def Obligations.PlaneFetchesFillTheirLatches : Prop :=
  ∀ s : State,
    let a := BitVec.ofNat 14 (4096 * s.bgPatternSel.toNat + 16 * s.ntLatch.toNat + s.v.toNat / 4096)
    let b := BitVec.ofNat 14 (4096 * s.bgPatternSel.toNat + 16 * s.ntLatch.toNat + 8 + s.v.toNat / 4096)
    let low := if s.rendering then { s with loLatch := mapperReply s a, log := .patRead a (mapperReply s a) :: s.log }
      else { s with loLatch := 0x00#8 }
    let high := if s.rendering then { s with hiLatch := mapperReply s b, log := .patRead b (mapperReply s b) :: s.log }
      else { s with hiLatch := 0x00#8 }
    exec .plf s = .next low ∧ exec .pplf s = .next low ∧ exec .phf s = .next high ∧ exec .pphf s = .next high

/-- R276: the registers move left by 8 and take the latches, whether or not rendering is enabled. -/
def Obligations.ReloadShiftsByEight : Prop :=
  ∀ s : State,
    let s' := { s with
      bgLo := BitVec.ofNat 16 (256 * s.bgLo.toNat + s.loLatch.toNat),
      bgHi := BitVec.ofNat 16 (256 * s.bgHi.toNat + s.hiLatch.toNat),
      bgAt := BitVec.ofNat 16 (256 * s.bgAt.toNat + s.atLatch.toNat) }
    exec .reload s = .next s' ∧ exec .preload s = .next s'

/-- R277, R295: the idle and the dummy fetches make one call each when rendering is enabled and change no state of the
core. -/
def Obligations.DummyFetchesOnlyCallTheMapper : Prop :=
  ∀ s : State,
    let n := s.v.toNat
    let a := BitVec.ofNat 14 (0x2000 + n % 0x1000)
    let b := BitVec.ofNat 14 (0x23C0 + 1024 * (n / 1024 % 4) + 8 * (n / 128 % 8) + n / 4 % 8)
    let nt := if s.rendering then { s with log := .ntRead a (mapperReply s a) :: s.log } else s
    let at' := if s.rendering then { s with log := .ntRead b (mapperReply s b) :: s.log } else s
    exec .idlef1 s = .next nt ∧ exec .idlef2 s = .next nt ∧ exec .sntf s = .next nt ∧ exec .satf s = .next at'

/-! ### Sprite fetch (spec/46_sprite_fetch.md) -/

/-- R292, R293, R296, R297: the two planes of a slot, at the address of its size, flip and table; every other slot and field
stays. -/
def Obligations.SpriteFetchesFillTheSlot : Prop :=
  ∀ (s : State) (k : BitVec 3),
    let e := s.spr[k.toNat]'k.isLt
    let a := BitVec.ofNat 14 (spriteFetchAddr s e 0)
    let b := BitVec.ofNat 14 (spriteFetchAddr s e 1)
    exec (.splf k) s = .next
      (if s.rendering then
        { s with spr := s.spr.set k.toNat { e with lo := mapperReply s a } k.isLt,
                 log := .patRead a (mapperReply s a) :: s.log }
      else { s with spr := s.spr.set k.toNat { e with lo := 0x00#8 } k.isLt }) ∧
    exec (.sphf k) s = .next
      (if s.rendering then
        { s with spr := s.spr.set k.toNat { e with hi := mapperReply s b } k.isLt,
                 log := .patRead b (mapperReply s b) :: s.log }
      else { s with spr := s.spr.set k.toNat { e with hi := 0x00#8 } k.isLt })

/-- R294: the sentinel's fetch addresses are fixed by the sprite size and the table select. -/
def Obligations.SentinelFetchAddressesAreFixed : Prop :=
  ∀ sel : Bool,
    (sprPatAddr false sel SpriteEntry.sentinel false).toNat = 4096 * sel.toNat + 0x0FF0 ∧
    (sprPatAddr false sel SpriteEntry.sentinel true).toNat = 4096 * sel.toNat + 0x0FF8 ∧
    (sprPatAddr true sel SpriteEntry.sentinel false).toNat = 0x1FE0 ∧
    (sprPatAddr true sel SpriteEntry.sentinel true).toNat = 0x1FE8

/-! ### Pixel composition (spec/47_pixel_composition.md) -/

/-- R311, R312: the background value of a column: the bit at `15 - (x + column mod 8)` of both planes with the attribute of
the same tile, 0 where transparent, disabled or clipped. -/
def Obligations.BackgroundPixelIsTheSelectedBit : Prop :=
  ∀ (s : State) (col : Byte),
    let pos := s.x.toNat + col.toNat % 8
    let p := 2 * bitOf s.bgHi (15 - pos) + bitOf s.bgLo (15 - pos)
    let a := if pos < 8 then s.bgAt.toNat / 256 % 4 else s.bgAt.toNat % 4
    (bgPixel s col).toNat =
      if s.bgEnable = false ∨ (col.toNat < 8 ∧ s.bgEdgeClip = true) ∨ p = 0 then 0 else 4 * a + p

/-- R313, R314, R315: no sprite pixel where sprites are disabled or clipped or no slot is opaque; else the value, priority
and id test of the lowest-numbered opaque slot. -/
def Obligations.LowestOpaqueSlotWins : Prop :=
  ∀ (s : State) (col : Byte),
    ((s.sprEnable = false ∨ (col.toNat < 8 ∧ s.sprEdgeClip = true)) →
      sprPixel s col = { sp := 0#5, front := false, zero := false }) ∧
    (s.sprEnable = true → ¬ (col.toNat < 8 ∧ s.sprEdgeClip = true) →
      ((∀ i : Fin 8, entryPatternOf s.spr[i] col.toNat = 0) →
        sprPixel s col = { sp := 0#5, front := false, zero := false }) ∧
      (∀ i : Fin 8, entryPatternOf s.spr[i] col.toNat ≠ 0 →
        (∀ j : Fin 8, j < i → entryPatternOf s.spr[j] col.toNat = 0) →
        sprPixel s col =
          { sp := BitVec.ofNat 5 (16 + 4 * ((s.spr[i]).attr.toNat % 4) + entryPatternOf s.spr[i] col.toNat),
            front := decide ((s.spr[i]).attr.toNat / 32 % 2 = 0), zero := decide ((s.spr[i]).id.toNat = 0) }))

/-- R310, R316, R317, R318: the pixel written, the hit flag, and that nothing else changes; every other pixel reads as
before. -/
def Obligations.PixelWritesOneFrameBufferCell : Prop :=
  ∀ (s : State) (col : Byte), Memory.wf s.fb = true →
    let bg := bgPixel s col
    let q := sprPixel s col
    let out : BitVec 5 :=
      if s.bgEnable = false ∧ s.sprEnable = false then 0#5
      else if q.sp = 0#5 then bg.setWidth 5
      else if bg = 0#4 then q.sp
      else if q.front = true then q.sp
      else bg.setWidth 5
    ∃ fb', exec (.pixel col) s = .next { s with
        spr0hit := s.spr0hit || decide (q.sp ≠ 0#5 ∧ q.zero = true ∧ bg ≠ 0#4), fb := fb' } ∧
      Memory.wf fb' = true ∧
      ∀ k, Memory.read fb' k =
        if k = 256 * s.ly.toNat + col.toNat then
          BitVec.ofNat 9 (64 * s.emphasis.toNat + (paletteColourOf s out).toNat % 64)
        else Memory.read s.fb k

/-! ### The whole machine -/

/-- R340: every step of either agent completes, from every state. -/
def Obligations.EveryStepCompletes : Prop := ∀ s : State, ∃ s', step s = .next s'

/-- R82 and the access tables of R22 to R39: a dot step never writes what only port transactions write. -/
def Obligations.DotStepKeepsTheCpuSide : Prop :=
  ∀ s s' : State, s.gap = [] → step s = .next s' → SameCpuSide s s'

/-- R82 and the access tables of R30 to R35, R50: a port transaction never writes what only the raster agent writes. That it
leaves the position and `clock` alone is log entry 19 (DEDUCED). That the rest of the gap, the schedule, the scheduler's answers and
who the CPU is stay is about the model's own inputs (log entries 2, 8). -/
def Obligations.TransactionKeepsTheRasterSide : Prop :=
  ∀ (s s' : State) (word : PortWord) (rest : List GapAction), s.gap = .transaction word :: rest →
    step s = .next s' → SameRasterSide s s' ∧ s'.gap = rest ∧ s'.schedule = s.schedule

/-- R270: "The raster agent makes at most one collaborator call per dot" to the mapper. -/
def Obligations.AtMostOneMapperCallPerDot : Prop :=
  ∀ s : State, s.gap = [] → ∃ s', step s = .next s' ∧ s.mapperCalls ≤ s'.mapperCalls ∧ s'.mapperCalls ≤ s.mapperCalls + 1

/-- What was called or returned is never taken back: the log of a next state extends the old one. The log is the model's own
field (log entry 7). -/
def Obligations.LogOnlyGrows : Prop :=
  ∀ s s' : State, step s = .next s' → ∃ new, s'.log = new ++ s.log

/-- R60: every item of state the core owns is zero after reset. -/
def Obligations.ResetLeavesEverythingZero : Prop :=
  let s := State.reset
  (s.v = 0#15 ∧ s.t = 0#15 ∧ s.x = 0#3 ∧ s.w = false ∧ s.busLatch = 0#8 ∧ s.readBuffer = 0#8 ∧ s.oamAddr = 0#8) ∧
  (s.ly = 0#9 ∧ s.lx = 0#9 ∧ s.parity = false ∧ s.clock = 0) ∧
  (s.vblank = false ∧ s.spr0hit = false ∧ s.sprovf = false ∧ s.irqLine = false) ∧
  (s.nmiEnable = false ∧ s.spriteSize = false ∧ s.bgPatternSel = false ∧ s.sprPatternSel = false ∧ s.vramInc32 = false) ∧
  (s.grayscale = false ∧ s.bgEdgeClip = false ∧ s.sprEdgeClip = false ∧ s.bgEnable = false ∧ s.sprEnable = false ∧
    s.emphasis = 0#3) ∧
  (∀ k, Memory.read s.pal k = 0#8 ∧ Memory.read s.oam k = 0#8 ∧ Memory.read s.fb k = 0#9) ∧
  (s.bgLo = 0#16 ∧ s.bgHi = 0#16 ∧ s.bgAt = 0#16 ∧ s.ntLatch = 0#8 ∧ s.atLatch = 0#2 ∧ s.loLatch = 0#8 ∧ s.hiLatch = 0#8) ∧
  (s.secCount = 0#4 ∧
    ∀ i : Fin 8, s.sec[i] = { id := 0#7, row := 0#4, tile := 0#8, attr := 0#8, x := 0#8, lo := 0#8, hi := 0#8 } ∧
      s.spr[i] = { id := 0#7, row := 0#4, tile := 0#8, attr := 0#8, x := 0#8, lo := 0#8, hi := 0#8 })

/-- R370: a reset in a gap yields the reset state from any state, drives the line low, and touches neither the mapper nor the
parameters and inputs outside the core. What of the model's own fields it keeps is the model's choice (log entry 15). -/
def Obligations.ResetEventYieldsTheResetState : Prop :=
  ∀ (s : State) (rest : List GapAction), s.gap = .reset :: rest →
    step s = .next { State.reset with
      params := s.params, mapper := s.mapper, gap := rest, schedule := s.schedule, cpu := s.cpu,
      syncRequests := s.syncRequests, log := .irqSet false :: s.log }

/-- The state after reset meets every invariant stated below. -/
def Obligations.ResetMeetsTheInvariants : Prop :=
  State.reset.Inv ∧ State.reset.VblankInWindow ∧ State.reset.BankOrdered ∧ State.reset.NoSpriteOnLineZero

/-- R30, R36, R45 to R47, R51, R54: every step keeps the position in range, the line equal to enable and flag, the memories
canonical and within their sizes, the count at most 8 and the unused attribute bits zero. -/
def Obligations.EveryStepKeepsTheStructure : Prop :=
  ∀ s s' : State, s.Inv → step s = .next s' → s'.Inv

/-- R240, R241, R390: every step keeps `vblank` inside its window. -/
def Obligations.VblankStaysInItsWindow : Prop :=
  ∀ s s' : State, s.PositionInRange → s.VblankInWindow → step s = .next s' → s'.VblankInWindow

/-- R215, which the spec marks as derived from R210 and R213: every step keeps the evaluation bank in slot order. -/
def Obligations.EveryStepKeepsTheSlotOrder : Prop :=
  ∀ s s' : State, s.BankOrdered → step s = .next s' → s'.BankOrdered

/-- R217, which the spec marks as derived from R212, and R316 (7): scanline 0 never shows a sprite and never sets
sprite-zero hit. -/
def Obligations.ScanlineZeroNeverShowsASprite : Prop :=
  ∀ s s' : State, s.PositionInRange → s.NoSpriteOnLineZero → step s = .next s' → s'.NoSpriteOnLineZero

/-! ### Encoding (spec/30_encoding.md) -/

/-- R113, R115, R117: the selector of every instruction selects it, under the phase of its row; a transaction's word selects
nothing else; and the word of a decoded transaction is the word it came from, up to the ignored data field of a read. -/
def Obligations.DecodeOfEncodeIsTheInstruction : Prop :=
  (∀ i : Instr, i ∈ decode (phaseOf i) (encode i) ∧ (encode i).wellFormed = true) ∧
  (∀ (i : Instr) (word : PortWord), encode i = .port word → decodePort (phaseOf i) word = i) ∧
  (∀ (w : Bool) (word : PortWord),
    encode (decodePort w word) = .port (if word.getLsbD 11 then word else word &&& 0xF00#12))

/-- R113, R115, R117, R231: words and positions written out from the tables decode to what they stand for, a position to the list
in the order of R231. COPYV stands at (261, 304) without the condition `rendering`, which the model evaluates in the meaning
(log entry 13); that PIXEL and EVAL carry fields of `lx` is log entry 14. -/
def Obligations.WordsOfTheTableDecode : Prop :=
  decodePort false 0x200#12 = .r2 ∧ decodePort true 0x7FF#12 = .r7 ∧ decodePort false 0x882#12 = .w0 0x82#8 ∧
  decodePort false 0xD7D#12 = .w5a 0x7D#8 ∧ decodePort true 0xD5E#12 = .w5b 0x5E#8 ∧
  decodePort false 0xE3F#12 = .w6a 0x3F#8 ∧ decodePort true 0xE08#12 = .w6b 0x08#8 ∧
  decodeDot 10#9 11#9 = [.pixel 11#8, .eval 2#6, .advance] ∧
  decodeDot 261#9 304#9 = [.copyv, .sntf, .advance] ∧ decodeDot 245#9 7#9 = [.advance]
end

