-- ==== Sys2Proof/Laws/Operands.lean ====
section
/-! SUPPORT. The operand forms in numbers: the fields of `v` and `t`, a packed register, what each write makes of `t`, and
every fetch address; and each change of `t` in the mask form of the spec's rule. -/

namespace Sys2Proof.Machine

theorem extract_toNat {n : Nat} (b : BitVec n) (k w : Nat) : (b.extractLsb' k w).toNat = b.toNat / 2 ^ k % 2 ^ w := by
  rw [BitVec.extractLsb'_toNat, Nat.shiftRight_eq_div_pow]

theorem append_toNat {m n : Nat} (a : BitVec m) (b : BitVec n) : (a ++ b).toNat = 2 ^ n * a.toNat + b.toNat := by
  rw [BitVec.toNat_append, ← Nat.shiftLeft_add_eq_or_of_lt b.isLt, Nat.shiftLeft_eq, Nat.mul_comm]

/-- The value of a packed register. -/
theorem packReg_toNat (fy : BitVec 3) (nt : BitVec 2) (cy cx : BitVec 5) :
    (packReg fy nt cy cx).toNat = 4096 * fy.toNat + 1024 * nt.toNat + 32 * cy.toNat + cx.toNat := by
  have h1 := nt.isLt
  have h2 := cy.isLt
  have h3 := cx.isLt
  simp only [packReg, BitVec.toNat_append]
  rw [← Nat.shiftLeft_add_eq_or_of_lt h1, ← Nat.shiftLeft_add_eq_or_of_lt h2, ← Nat.shiftLeft_add_eq_or_of_lt h3]
  simp only [Nat.shiftLeft_eq]
  omega

theorem coarseX_toNat (r : VReg) : (coarseX r).toNat = r.toNat % 32 := by
  simp [coarseX, BitVec.extractLsb'_toNat]

theorem coarseY_toNat (r : VReg) : (coarseY r).toNat = r.toNat / 32 % 32 := by
  simp [coarseY, BitVec.extractLsb'_toNat, Nat.shiftRight_eq_div_pow]

theorem ntSelect_toNat (r : VReg) : (ntSelect r).toNat = r.toNat / 1024 % 4 := by
  simp [ntSelect, BitVec.extractLsb'_toNat, Nat.shiftRight_eq_div_pow]

theorem fineY_toNat (r : VReg) : (fineY r).toNat = r.toNat / 4096 % 8 := by
  simp [fineY, BitVec.extractLsb'_toNat, Nat.shiftRight_eq_div_pow]

@[simp] theorem coarseX_packReg (fy : BitVec 3) (nt : BitVec 2) (cy cx : BitVec 5) :
    coarseX (packReg fy nt cy cx) = cx := by
  apply BitVec.eq_of_toNat_eq
  rw [coarseX_toNat, packReg_toNat]
  omega

@[simp] theorem coarseY_packReg (fy : BitVec 3) (nt : BitVec 2) (cy cx : BitVec 5) :
    coarseY (packReg fy nt cy cx) = cy := by
  apply BitVec.eq_of_toNat_eq
  rw [coarseY_toNat, packReg_toNat]
  omega

@[simp] theorem ntSelect_packReg (fy : BitVec 3) (nt : BitVec 2) (cy cx : BitVec 5) :
    ntSelect (packReg fy nt cy cx) = nt := by
  apply BitVec.eq_of_toNat_eq
  rw [ntSelect_toNat, packReg_toNat]
  omega

@[simp] theorem fineY_packReg (fy : BitVec 3) (nt : BitVec 2) (cy cx : BitVec 5) :
    fineY (packReg fy nt cy cx) = fy := by
  apply BitVec.eq_of_toNat_eq
  rw [fineY_toNat, packReg_toNat]
  omega

/-- A register is the pack of its own fields (R24). -/
theorem packReg_fields (r : VReg) : packReg (fineY r) (ntSelect r) (coarseY r) (coarseX r) = r := by
  apply BitVec.eq_of_toNat_eq
  rw [packReg_toNat, coarseX_toNat, coarseY_toNat, ntSelect_toNat, fineY_toNat]
  have := r.isLt
  omega

/-! ### `t` after a write, as a number and in the mask form of its rule -/

theorem tAfterControl_toNat (t : VReg) (d : Byte) :
    (tAfterControl t d).toNat = 4096 * (t.toNat / 4096) + 1024 * (d.toNat % 4) + t.toNat % 1024 := by
  have := t.isLt
  rw [tAfterControl, packReg_toNat, fineY_toNat, coarseY_toNat, coarseX_toNat, extract_toNat]
  omega

theorem tAfterScrollFirst_toNat (t : VReg) (d : Byte) :
    (tAfterScrollFirst t d).toNat = 32 * (t.toNat / 32) + d.toNat / 8 := by
  have := t.isLt
  have := d.isLt
  rw [tAfterScrollFirst, packReg_toNat, fineY_toNat, coarseY_toNat, ntSelect_toNat, extract_toNat]
  omega

theorem tAfterScrollSecond_toNat (t : VReg) (d : Byte) :
    (tAfterScrollSecond t d).toNat =
      4096 * (d.toNat % 8) + 1024 * (t.toNat / 1024 % 4) + 32 * (d.toNat / 8) + t.toNat % 32 := by
  have := d.isLt
  rw [tAfterScrollSecond, packReg_toNat, ntSelect_toNat, coarseX_toNat, extract_toNat, extract_toNat]
  omega

theorem tAfterAddressFirst_toNat (t : VReg) (d : Byte) :
    (tAfterAddressFirst t d).toNat = 256 * (d.toNat % 64) + t.toNat % 256 := by
  simp only [tAfterAddressFirst, append_toNat, extract_toNat]
  simp

theorem tAfterAddressSecond_toNat (t : VReg) (d : Byte) :
    (tAfterAddressSecond t d).toNat = 256 * (t.toNat / 256) + d.toNat := by
  have := t.isLt
  simp only [tAfterAddressSecond, append_toNat, extract_toNat]
  omega

/-- R161. -/
theorem tAfterControl_mask (t : VReg) (d : Byte) :
    tAfterControl t d = (t &&& 0x73FF#15) ||| ((d &&& 0x03#8).setWidth 15 <<< 10) := by
  have h : tAfterControl t d =
      (t.extractLsb' 12 3 ++ d.extractLsb' 0 2 ++ t.extractLsb' 5 5 ++ t.extractLsb' 0 5 : BitVec (3 + 2 + 5 + 5)).cast rfl := rfl
  rw [h]
  apply BitVec.eq_of_getLsbD_eq
  intro i hi
  rw [BitVec.getLsbD_cast]
  simp only [BitVec.getLsbD_append]
  interval_cases i <;> simp

/-- R166. -/
theorem tAfterScrollFirst_mask (t : VReg) (d : Byte) :
    tAfterScrollFirst t d = (t &&& 0x7FE0#15) ||| (d >>> 3).setWidth 15 := by
  have h : tAfterScrollFirst t d =
      (t.extractLsb' 12 3 ++ t.extractLsb' 10 2 ++ t.extractLsb' 5 5 ++ d.extractLsb' 3 5 : BitVec (3 + 2 + 5 + 5)).cast rfl := rfl
  rw [h]
  apply BitVec.eq_of_getLsbD_eq
  intro i hi
  rw [BitVec.getLsbD_cast]
  simp only [BitVec.getLsbD_append]
  interval_cases i <;> simp

/-- R167. -/
theorem tAfterScrollSecond_mask (t : VReg) (d : Byte) :
    tAfterScrollSecond t d =
      (t &&& 0x0C1F#15) ||| ((d &&& 0x07#8).setWidth 15 <<< 12) ||| ((d >>> 3).setWidth 15 <<< 5) := by
  have h : tAfterScrollSecond t d =
      (d.extractLsb' 0 3 ++ t.extractLsb' 10 2 ++ d.extractLsb' 3 5 ++ t.extractLsb' 0 5 : BitVec (3 + 2 + 5 + 5)).cast rfl := rfl
  rw [h]
  apply BitVec.eq_of_getLsbD_eq
  intro i hi
  rw [BitVec.getLsbD_cast]
  simp only [BitVec.getLsbD_append]
  interval_cases i <;> simp

/-- R168. -/
theorem tAfterAddressFirst_mask (t : VReg) (d : Byte) :
    tAfterAddressFirst t d = (t &&& 0x00FF#15) ||| ((d &&& 0x3F#8).setWidth 15 <<< 8) := by
  have h : tAfterAddressFirst t d = (0#1 ++ d.extractLsb' 0 6 ++ t.extractLsb' 0 8 : BitVec (1 + 6 + 8)).cast rfl := rfl
  rw [h]
  apply BitVec.eq_of_getLsbD_eq
  intro i hi
  rw [BitVec.getLsbD_cast]
  simp only [BitVec.getLsbD_append]
  interval_cases i <;> simp

/-- R169. -/
theorem tAfterAddressSecond_mask (t : VReg) (d : Byte) :
    tAfterAddressSecond t d = (t &&& 0x7F00#15) ||| d.setWidth 15 := by
  have h : tAfterAddressSecond t d = (t.extractLsb' 8 7 ++ d : BitVec (7 + 8)).cast rfl := rfl
  rw [h]
  apply BitVec.eq_of_getLsbD_eq
  intro i hi
  rw [BitVec.getLsbD_cast]
  simp only [BitVec.getLsbD_append]
  interval_cases i <;> simp

/-! ### Addresses as numbers -/

theorem portAddr_toNat (v : VReg) : (portAddr v).toNat = v.toNat % 0x4000 := by
  rw [portAddr, extract_toNat]
  omega

theorem vAfterAccess_toNat (v : VReg) (inc32 : Bool) :
    (vAfterAccess v inc32).toNat = (v.toNat + if inc32 then 32 else 1) % 0x8000 := by
  cases inc32 <;> simp [vAfterAccess]

/-- R271 in numbers. -/
theorem ntAddr_toNat (v : VReg) : (ntAddr v).toNat = 0x2000 + v.toNat % 0x1000 := by
  have h : v.toNat &&& 4095 = v.toNat % 4096 := Nat.and_two_pow_sub_one_eq_mod v.toNat 12
  have h2 : v.toNat % 4096 < 2 ^ 13 := by omega
  simp only [ntAddr, BitVec.toNat_or, BitVec.toNat_setWidth, BitVec.toNat_and, BitVec.toNat_ofNat]
  norm_num
  rw [h, Nat.mod_eq_of_lt (a := v.toNat % 4096) (by omega)]
  exact (Nat.two_pow_add_eq_or_of_lt h2 1).symm

/-- R272 in numbers. -/
theorem atAddr_toNat (v : VReg) :
    (atAddr v).toNat = 0x23C0 + 1024 * (v.toNat / 1024 % 4) + 8 * (v.toNat / 128 % 8) + v.toNat / 4 % 8 := by
  have h : atAddr v =
      (2#2 ++ v.extractLsb' 10 2 ++ 15#4 ++ v.extractLsb' 7 3 ++ v.extractLsb' 2 3 : BitVec (2 + 2 + 4 + 3 + 3)).cast rfl := by
    apply BitVec.eq_of_getLsbD_eq
    intro i hi
    unfold atAddr
    rw [BitVec.getLsbD_cast]
    simp only [BitVec.getLsbD_append]
    interval_cases i <;> simp
  rw [h, BitVec.toNat_cast]
  simp only [append_toNat, extract_toNat, BitVec.toNat_ofNat]
  omega

/-- R272, the quadrant's shift in numbers. -/
theorem atShift_eq (v : VReg) : atShift v = 4 * (v.toNat / 64 % 2) + 2 * (v.toNat / 2 % 2) := by
  have h : (((v >>> 4) &&& 4#15) ||| (v &&& 2#15)) =
      (0#12 ++ v.extractLsb' 6 1 ++ v.extractLsb' 1 1 ++ 0#1 : BitVec (12 + 1 + 1 + 1)).cast rfl := by
    apply BitVec.eq_of_getLsbD_eq
    intro i hi
    rw [BitVec.getLsbD_cast]
    simp only [BitVec.getLsbD_append]
    interval_cases i <;> simp
  rw [atShift, h, BitVec.toNat_cast]
  simp only [append_toNat, extract_toNat, BitVec.toNat_ofNat]
  omega

/-- R273 in numbers. -/
theorem bgPatAddr_toNat (sel : Bool) (nt : Byte) (plane : Bool) (v : VReg) :
    (bgPatAddr sel nt plane v).toNat = 4096 * sel.toNat + 16 * nt.toNat + 8 * plane.toNat + v.toNat / 4096 := by
  have := v.isLt
  simp only [bgPatAddr, fineY, append_toNat, extract_toNat]
  cases sel <;> cases plane <;> simp <;> omega

/-- R292 in numbers. -/
theorem sprPatAddr8_toNat (sel : Bool) (e : SpriteEntry) (plane : Bool) :
    (sprPatAddr8 sel e plane).toNat =
      4096 * sel.toNat + 16 * e.tile.toNat + 8 * plane.toNat +
        (if attrFlipV e.attr then 7 - e.row.toNat % 8 else e.row.toNat % 8) := by
  have flip : ∀ r : BitVec 3, (r ^^^ 7#3).toNat = 7 - r.toNat := by decide
  unfold sprPatAddr8
  cases attrFlipV e.attr <;> simp only [append_toNat, extract_toNat, flip, if_true, if_false, Bool.false_eq_true] <;>
    cases sel <;> cases plane <;> simp <;> omega

/-- R293 in numbers. -/
theorem sprPatAddr16_toNat (e : SpriteEntry) (plane : Bool) :
    (sprPatAddr16 e plane).toNat =
      4096 * (e.tile.toNat % 2) + 32 * (e.tile.toNat / 2) + 8 * plane.toNat +
        (if attrFlipV e.attr then 16 * ((15 - e.row.toNat) / 8) + (15 - e.row.toNat) % 8
          else 16 * (e.row.toNat / 8) + e.row.toNat % 8) := by
  have flip : ∀ r : BitVec 4, (r ^^^ 15#4).toNat = 15 - r.toNat := by decide
  have := e.row.isLt
  have := e.tile.isLt
  unfold sprPatAddr16
  cases attrFlipV e.attr <;> simp only [append_toNat, extract_toNat, flip, if_true, if_false, Bool.false_eq_true] <;>
    cases plane <;> simp <;> omega

end Sys2Proof.Machine
end

