-- ==== Sys2Proof/Laws/Decode.lean ====
section
/-! SUPPORT. The fields of a transaction word, and what a word laid out by `portWord` decodes to. -/

namespace Sys2Proof

open Sys2Proof.Machine

theorem portWord_toNat (write : Bool) (address : Nat) (d : Byte) :
    (portWord write address d).toNat = 2048 * write.toNat + 256 * (address % 8) + d.toNat := by
  simp only [portWord, append_toNat, BitVec.toNat_ofNat, BitVec.toNat_ofBool]
  omega

theorem isWrite_eq (word : PortWord) : PortWord.isWrite word = decide (2048 ≤ word.toNat) := by
  have := word.isLt
  simp only [PortWord.isWrite, BitVec.getLsbD, Nat.testBit_eq_decide_div_mod_eq]
  congr 1
  simp
  omega

@[simp] theorem isWrite_portWord (write : Bool) (address : Nat) (d : Byte) :
    PortWord.isWrite (portWord write address d) = write := by
  rw [isWrite_eq, portWord_toNat]
  have := d.isLt
  cases write <;> simp <;> omega

@[simp] theorem portField_portWord (write : Bool) (address : Nat) (d : Byte) :
    PortWord.portField (portWord write address d) = BitVec.ofNat 3 address := by
  apply BitVec.eq_of_toNat_eq
  have := d.isLt
  rw [PortWord.portField, extract_toNat, portWord_toNat]
  cases write <;> simp <;> omega

@[simp] theorem dataField_portWord (write : Bool) (address : Nat) (d : Byte) :
    PortWord.dataField (portWord write address d) = d := by
  apply BitVec.eq_of_toNat_eq
  have := d.isLt
  rw [PortWord.dataField, extract_toNat, portWord_toNat]
  cases write <;> simp <;> omega

theorem decodePort_write (w : Bool) (address : Nat) (d : Byte) :
    decodePort w (portWord true address d) = decodeWrite w (BitVec.ofNat 3 address) d := by
  simp [decodePort]

theorem decodePort_read (w : Bool) (address : Nat) (d : Byte) :
    decodePort w (portWord false address d) = decodeRead (BitVec.ofNat 3 address) := by
  simp [decodePort]

/-- Every row names no line, or line 241. -/
theorem dotTable_line : ∀ r ∈ dotTable, r.line = none ∨ r.line = some 241#9 := by decide

end Sys2Proof
end

