-- ==== Sys2Proof/Laws/Memory.lean ====
section
/-! SUPPORT. The laws of a memory held as plain data: a write keeps the canonical form, a read after a write, and equal
contents are equal data. -/

namespace Sys2Proof

variable {n : Nat}

theorem Memory.wfFrom_cons (lo b : Nat) (u : BitVec n) (m : Memory n) :
    Memory.wfFrom lo ((b, u) :: m) = true ↔ lo ≤ b ∧ u ≠ 0#n ∧ Memory.wfFrom (b + 1) m = true := by
  simp [Memory.wfFrom, and_assoc]

theorem Memory.wfFrom_mono {lo lo' : Nat} (h : lo' ≤ lo) : ∀ {m : Memory n},
    Memory.wfFrom lo m = true → Memory.wfFrom lo' m = true
  | [], _ => rfl
  | (b, u) :: m, hm => by
    rw [Memory.wfFrom_cons] at hm ⊢
    exact ⟨by omega, hm.2⟩

/-- Below the first key of a canonical list every cell reads 0. -/
theorem Memory.read_below : ∀ {m : Memory n} {lo a : Nat},
    Memory.wfFrom lo m = true → a < lo → Memory.read m a = 0#n
  | [], _, _, _, _ => rfl
  | (b, u) :: m, lo, a, hm, ha => by
    rw [Memory.wfFrom_cons] at hm
    have hab : ¬ a = b := by omega
    simp only [Memory.read, hab, if_false]
    exact Memory.read_below hm.2.2 (by omega)

theorem Memory.wfFrom_write : ∀ {m : Memory n} {lo a : Nat} (d : BitVec n),
    Memory.wfFrom lo m = true → lo ≤ a → Memory.wfFrom lo (Memory.write m a d) = true
  | [], lo, a, d, _, ha => by
    by_cases hd : d = 0#n <;> simp [Memory.write, Memory.wfFrom, hd, ha]
  | (b, u) :: m, lo, a, d, hm, ha => by
    have hm' := hm
    rw [Memory.wfFrom_cons] at hm'
    obtain ⟨hlo, hu, hrest⟩ := hm'
    unfold Memory.write
    split
    · rename_i hab
      split
      · exact hm
      · rename_i hd
        rw [Memory.wfFrom_cons, Memory.wfFrom_cons]
        exact ⟨ha, hd, by omega, hu, hrest⟩
    · split
      · rename_i hab
        split
        · exact Memory.wfFrom_mono (by omega) hrest
        · rename_i hd
          subst hab
          rw [Memory.wfFrom_cons]
          exact ⟨ha, hd, hrest⟩
      · rw [Memory.wfFrom_cons]
        exact ⟨hlo, hu, Memory.wfFrom_write d hrest (by omega)⟩

/-- A write keeps the canonical form. -/
theorem Memory.wf_write {m : Memory n} (hm : Memory.wf m = true) (a : Nat) (d : BitVec n) :
    Memory.wf (Memory.write m a d) = true :=
  Memory.wfFrom_write d hm (Nat.zero_le a)

theorem Memory.read_write_from : ∀ {m : Memory n} {lo : Nat} (a b : Nat) (d : BitVec n),
    Memory.wfFrom lo m = true → Memory.read (Memory.write m a d) b = if b = a then d else Memory.read m b
  | [], _, a, b, d, _ => by
    by_cases hd : d = 0#n <;> simp [Memory.write, Memory.read, hd]
  | (c, u) :: m, lo, a, b, d, hm => by
    rw [Memory.wfFrom_cons] at hm
    obtain ⟨-, hu, hrest⟩ := hm
    unfold Memory.write
    split
    · rename_i hac
      split
      · rename_i hd
        by_cases hb : b = a
        · subst hb
          have hbc : ¬ b = c := by omega
          simp only [Memory.read, hbc, if_false, if_true, hd]
          exact Memory.read_below hrest (by omega)
        · simp [hb]
      · simp only [Memory.read]
    · split
      · rename_i _ hac
        subst hac
        split
        · rename_i hd
          by_cases hb : b = a
          · subst hb
            simp only [if_true, hd]
            exact Memory.read_below hrest (by omega)
          · simp [Memory.read, hb]
        · by_cases hb : b = a <;> simp [Memory.read, hb]
      · rename_i _ hac
        simp only [Memory.read]
        by_cases hb : b = c
        · subst hb
          have : ¬ b = a := by omega
          simp [this]
        · simp only [hb, if_false]
          exact Memory.read_write_from a b d hrest

/-- A read after a write: the value at the place written, the old value elsewhere. -/
theorem Memory.read_write {m : Memory n} (hm : Memory.wf m = true) (a b : Nat) (d : BitVec n) :
    Memory.read (Memory.write m a d) b = if b = a then d else Memory.read m b :=
  Memory.read_write_from a b d hm

/-- Keys of a written memory are bounded if they were and the key is. -/
theorem Memory.within_write {size : Nat} : ∀ {m : Memory n} {a : Nat} (d : BitVec n),
    Memory.within size m = true → a < size → Memory.within size (Memory.write m a d) = true
  | [], a, d, _, ha => by
    by_cases hd : d = 0#n <;> simp [Memory.write, Memory.within, hd, ha]
  | (b, u) :: m, a, d, hm, ha => by
    simp only [Memory.within, List.all_cons, Bool.and_eq_true, decide_eq_true_eq] at hm
    obtain ⟨hb, hrest⟩ := hm
    have ih := Memory.within_write (m := m) d hrest ha
    unfold Memory.within at ih
    unfold Memory.write Memory.within
    split
    · split <;> simp [ha, hb, hrest]
    · split
      · split <;> simp [ha, hrest]
      · simp [hb, ih]

/-- Equal contents are equal data. -/
theorem Memory.ext_from : ∀ {m m' : Memory n} {lo : Nat},
    Memory.wfFrom lo m = true → Memory.wfFrom lo m' = true → (∀ a, Memory.read m a = Memory.read m' a) → m = m'
  | [], [], _, _, _, _ => rfl
  | [], (b, u) :: m', lo, _, h', h => by
    rw [Memory.wfFrom_cons] at h'
    have hb := h b
    simp [Memory.read] at hb
    exact absurd hb.symm h'.2.1
  | (b, u) :: m, [], lo, h', _, h => by
    rw [Memory.wfFrom_cons] at h'
    have hb := h b
    simp [Memory.read] at hb
    exact absurd hb h'.2.1
  | (b, u) :: m, (c, u') :: m', lo, hm, hm', h => by
    rw [Memory.wfFrom_cons] at hm hm'
    obtain ⟨-, hu, hr⟩ := hm
    obtain ⟨-, hu', hr'⟩ := hm'
    have hbc : b = c := by
      rcases Nat.lt_trichotomy b c with hlt | heq | hgt
      · have hb := h b
        have hne : ¬ b = c := by omega
        simp only [Memory.read, if_true, hne, if_false] at hb
        exact absurd (hb.trans (Memory.read_below hr' (by omega))) hu
      · exact heq
      · have hc := h c
        have hne : ¬ c = b := by omega
        simp only [Memory.read, if_true, hne, if_false] at hc
        exact absurd (hc.symm.trans (Memory.read_below hr (by omega))) hu'
    subst hbc
    have hval := h b
    simp only [Memory.read, if_true] at hval
    subst hval
    have htail : m = m' := Memory.ext_from hr hr' (fun a => by
      by_cases hab : a = b
      · subst hab
        rw [Memory.read_below hr (by omega), Memory.read_below hr' (by omega)]
      · have := h a
        simpa only [Memory.read, hab, if_false] using this)
    rw [htail]

/-- Two canonical memories that read alike everywhere are the same data. -/
theorem Memory.ext_read {m m' : Memory n} (hm : Memory.wf m = true) (hm' : Memory.wf m' = true)
    (h : ∀ a, Memory.read m a = Memory.read m' a) : m = m' :=
  Memory.ext_from hm hm' h

end Sys2Proof
end

