-- ==== Sys2Proof/Laws/State.lean ====
section
/-! SUPPORT. One lemma per field per shared update of State, true by rfl, so that no proof unfolds a record update; and the
frame of a fetch, whose only change is the log. -/

namespace Sys2Proof.Machine

/-! ### emit -/

@[simp] theorem emit_v (e : Event) (s : State) : (emit e s).v = s.v := rfl
@[simp] theorem emit_t (e : Event) (s : State) : (emit e s).t = s.t := rfl
@[simp] theorem emit_x (e : Event) (s : State) : (emit e s).x = s.x := rfl
@[simp] theorem emit_w (e : Event) (s : State) : (emit e s).w = s.w := rfl
@[simp] theorem emit_busLatch (e : Event) (s : State) : (emit e s).busLatch = s.busLatch := rfl
@[simp] theorem emit_readBuffer (e : Event) (s : State) : (emit e s).readBuffer = s.readBuffer := rfl
@[simp] theorem emit_oamAddr (e : Event) (s : State) : (emit e s).oamAddr = s.oamAddr := rfl
@[simp] theorem emit_ly (e : Event) (s : State) : (emit e s).ly = s.ly := rfl
@[simp] theorem emit_lx (e : Event) (s : State) : (emit e s).lx = s.lx := rfl
@[simp] theorem emit_parity (e : Event) (s : State) : (emit e s).parity = s.parity := rfl
@[simp] theorem emit_clock (e : Event) (s : State) : (emit e s).clock = s.clock := rfl
@[simp] theorem emit_vblank (e : Event) (s : State) : (emit e s).vblank = s.vblank := rfl
@[simp] theorem emit_spr0hit (e : Event) (s : State) : (emit e s).spr0hit = s.spr0hit := rfl
@[simp] theorem emit_sprovf (e : Event) (s : State) : (emit e s).sprovf = s.sprovf := rfl
@[simp] theorem emit_irqLine (e : Event) (s : State) : (emit e s).irqLine = s.irqLine := rfl
@[simp] theorem emit_nmiEnable (e : Event) (s : State) : (emit e s).nmiEnable = s.nmiEnable := rfl
@[simp] theorem emit_spriteSize (e : Event) (s : State) : (emit e s).spriteSize = s.spriteSize := rfl
@[simp] theorem emit_bgPatternSel (e : Event) (s : State) : (emit e s).bgPatternSel = s.bgPatternSel := rfl
@[simp] theorem emit_sprPatternSel (e : Event) (s : State) : (emit e s).sprPatternSel = s.sprPatternSel := rfl
@[simp] theorem emit_vramInc32 (e : Event) (s : State) : (emit e s).vramInc32 = s.vramInc32 := rfl
@[simp] theorem emit_grayscale (e : Event) (s : State) : (emit e s).grayscale = s.grayscale := rfl
@[simp] theorem emit_bgEdgeClip (e : Event) (s : State) : (emit e s).bgEdgeClip = s.bgEdgeClip := rfl
@[simp] theorem emit_sprEdgeClip (e : Event) (s : State) : (emit e s).sprEdgeClip = s.sprEdgeClip := rfl
@[simp] theorem emit_bgEnable (e : Event) (s : State) : (emit e s).bgEnable = s.bgEnable := rfl
@[simp] theorem emit_sprEnable (e : Event) (s : State) : (emit e s).sprEnable = s.sprEnable := rfl
@[simp] theorem emit_emphasis (e : Event) (s : State) : (emit e s).emphasis = s.emphasis := rfl
@[simp] theorem emit_pal (e : Event) (s : State) : (emit e s).pal = s.pal := rfl
@[simp] theorem emit_oam (e : Event) (s : State) : (emit e s).oam = s.oam := rfl
@[simp] theorem emit_fb (e : Event) (s : State) : (emit e s).fb = s.fb := rfl
@[simp] theorem emit_bgLo (e : Event) (s : State) : (emit e s).bgLo = s.bgLo := rfl
@[simp] theorem emit_bgHi (e : Event) (s : State) : (emit e s).bgHi = s.bgHi := rfl
@[simp] theorem emit_bgAt (e : Event) (s : State) : (emit e s).bgAt = s.bgAt := rfl
@[simp] theorem emit_sec (e : Event) (s : State) : (emit e s).sec = s.sec := rfl
@[simp] theorem emit_spr (e : Event) (s : State) : (emit e s).spr = s.spr := rfl
@[simp] theorem emit_secCount (e : Event) (s : State) : (emit e s).secCount = s.secCount := rfl
@[simp] theorem emit_ntLatch (e : Event) (s : State) : (emit e s).ntLatch = s.ntLatch := rfl
@[simp] theorem emit_atLatch (e : Event) (s : State) : (emit e s).atLatch = s.atLatch := rfl
@[simp] theorem emit_loLatch (e : Event) (s : State) : (emit e s).loLatch = s.loLatch := rfl
@[simp] theorem emit_hiLatch (e : Event) (s : State) : (emit e s).hiLatch = s.hiLatch := rfl
@[simp] theorem emit_params (e : Event) (s : State) : (emit e s).params = s.params := rfl
@[simp] theorem emit_mapper (e : Event) (s : State) : (emit e s).mapper = s.mapper := rfl
@[simp] theorem emit_gap (e : Event) (s : State) : (emit e s).gap = s.gap := rfl
@[simp] theorem emit_schedule (e : Event) (s : State) : (emit e s).schedule = s.schedule := rfl
@[simp] theorem emit_cpu (e : Event) (s : State) : (emit e s).cpu = s.cpu := rfl
@[simp] theorem emit_syncRequests (e : Event) (s : State) : (emit e s).syncRequests = s.syncRequests := rfl
@[simp] theorem emit_log (e : Event) (s : State) : (emit e s).log = e :: s.log := rfl

/-! ### irqSet -/

@[simp] theorem irqSet_v (b : Bool) (s : State) : (irqSet b s).v = s.v := rfl
@[simp] theorem irqSet_t (b : Bool) (s : State) : (irqSet b s).t = s.t := rfl
@[simp] theorem irqSet_x (b : Bool) (s : State) : (irqSet b s).x = s.x := rfl
@[simp] theorem irqSet_w (b : Bool) (s : State) : (irqSet b s).w = s.w := rfl
@[simp] theorem irqSet_busLatch (b : Bool) (s : State) : (irqSet b s).busLatch = s.busLatch := rfl
@[simp] theorem irqSet_readBuffer (b : Bool) (s : State) : (irqSet b s).readBuffer = s.readBuffer := rfl
@[simp] theorem irqSet_oamAddr (b : Bool) (s : State) : (irqSet b s).oamAddr = s.oamAddr := rfl
@[simp] theorem irqSet_ly (b : Bool) (s : State) : (irqSet b s).ly = s.ly := rfl
@[simp] theorem irqSet_lx (b : Bool) (s : State) : (irqSet b s).lx = s.lx := rfl
@[simp] theorem irqSet_parity (b : Bool) (s : State) : (irqSet b s).parity = s.parity := rfl
@[simp] theorem irqSet_clock (b : Bool) (s : State) : (irqSet b s).clock = s.clock := rfl
@[simp] theorem irqSet_vblank (b : Bool) (s : State) : (irqSet b s).vblank = s.vblank := rfl
@[simp] theorem irqSet_spr0hit (b : Bool) (s : State) : (irqSet b s).spr0hit = s.spr0hit := rfl
@[simp] theorem irqSet_sprovf (b : Bool) (s : State) : (irqSet b s).sprovf = s.sprovf := rfl
@[simp] theorem irqSet_irqLine (b : Bool) (s : State) : (irqSet b s).irqLine = b := rfl
@[simp] theorem irqSet_nmiEnable (b : Bool) (s : State) : (irqSet b s).nmiEnable = s.nmiEnable := rfl
@[simp] theorem irqSet_spriteSize (b : Bool) (s : State) : (irqSet b s).spriteSize = s.spriteSize := rfl
@[simp] theorem irqSet_bgPatternSel (b : Bool) (s : State) : (irqSet b s).bgPatternSel = s.bgPatternSel := rfl
@[simp] theorem irqSet_sprPatternSel (b : Bool) (s : State) : (irqSet b s).sprPatternSel = s.sprPatternSel := rfl
@[simp] theorem irqSet_vramInc32 (b : Bool) (s : State) : (irqSet b s).vramInc32 = s.vramInc32 := rfl
@[simp] theorem irqSet_grayscale (b : Bool) (s : State) : (irqSet b s).grayscale = s.grayscale := rfl
@[simp] theorem irqSet_bgEdgeClip (b : Bool) (s : State) : (irqSet b s).bgEdgeClip = s.bgEdgeClip := rfl
@[simp] theorem irqSet_sprEdgeClip (b : Bool) (s : State) : (irqSet b s).sprEdgeClip = s.sprEdgeClip := rfl
@[simp] theorem irqSet_bgEnable (b : Bool) (s : State) : (irqSet b s).bgEnable = s.bgEnable := rfl
@[simp] theorem irqSet_sprEnable (b : Bool) (s : State) : (irqSet b s).sprEnable = s.sprEnable := rfl
@[simp] theorem irqSet_emphasis (b : Bool) (s : State) : (irqSet b s).emphasis = s.emphasis := rfl
@[simp] theorem irqSet_pal (b : Bool) (s : State) : (irqSet b s).pal = s.pal := rfl
@[simp] theorem irqSet_oam (b : Bool) (s : State) : (irqSet b s).oam = s.oam := rfl
@[simp] theorem irqSet_fb (b : Bool) (s : State) : (irqSet b s).fb = s.fb := rfl
@[simp] theorem irqSet_bgLo (b : Bool) (s : State) : (irqSet b s).bgLo = s.bgLo := rfl
@[simp] theorem irqSet_bgHi (b : Bool) (s : State) : (irqSet b s).bgHi = s.bgHi := rfl
@[simp] theorem irqSet_bgAt (b : Bool) (s : State) : (irqSet b s).bgAt = s.bgAt := rfl
@[simp] theorem irqSet_sec (b : Bool) (s : State) : (irqSet b s).sec = s.sec := rfl
@[simp] theorem irqSet_spr (b : Bool) (s : State) : (irqSet b s).spr = s.spr := rfl
@[simp] theorem irqSet_secCount (b : Bool) (s : State) : (irqSet b s).secCount = s.secCount := rfl
@[simp] theorem irqSet_ntLatch (b : Bool) (s : State) : (irqSet b s).ntLatch = s.ntLatch := rfl
@[simp] theorem irqSet_atLatch (b : Bool) (s : State) : (irqSet b s).atLatch = s.atLatch := rfl
@[simp] theorem irqSet_loLatch (b : Bool) (s : State) : (irqSet b s).loLatch = s.loLatch := rfl
@[simp] theorem irqSet_hiLatch (b : Bool) (s : State) : (irqSet b s).hiLatch = s.hiLatch := rfl
@[simp] theorem irqSet_params (b : Bool) (s : State) : (irqSet b s).params = s.params := rfl
@[simp] theorem irqSet_mapper (b : Bool) (s : State) : (irqSet b s).mapper = s.mapper := rfl
@[simp] theorem irqSet_gap (b : Bool) (s : State) : (irqSet b s).gap = s.gap := rfl
@[simp] theorem irqSet_schedule (b : Bool) (s : State) : (irqSet b s).schedule = s.schedule := rfl
@[simp] theorem irqSet_cpu (b : Bool) (s : State) : (irqSet b s).cpu = s.cpu := rfl
@[simp] theorem irqSet_syncRequests (b : Bool) (s : State) : (irqSet b s).syncRequests = s.syncRequests := rfl
@[simp] theorem irqSet_log (b : Bool) (s : State) : (irqSet b s).log = .irqSet b :: s.log := rfl

/-! ### openGap -/

@[simp] theorem openGap_v (s : State) : (openGap s).v = s.v := rfl
@[simp] theorem openGap_t (s : State) : (openGap s).t = s.t := rfl
@[simp] theorem openGap_x (s : State) : (openGap s).x = s.x := rfl
@[simp] theorem openGap_w (s : State) : (openGap s).w = s.w := rfl
@[simp] theorem openGap_busLatch (s : State) : (openGap s).busLatch = s.busLatch := rfl
@[simp] theorem openGap_readBuffer (s : State) : (openGap s).readBuffer = s.readBuffer := rfl
@[simp] theorem openGap_oamAddr (s : State) : (openGap s).oamAddr = s.oamAddr := rfl
@[simp] theorem openGap_ly (s : State) : (openGap s).ly = s.ly := rfl
@[simp] theorem openGap_lx (s : State) : (openGap s).lx = s.lx := rfl
@[simp] theorem openGap_parity (s : State) : (openGap s).parity = s.parity := rfl
@[simp] theorem openGap_clock (s : State) : (openGap s).clock = s.clock := rfl
@[simp] theorem openGap_vblank (s : State) : (openGap s).vblank = s.vblank := rfl
@[simp] theorem openGap_spr0hit (s : State) : (openGap s).spr0hit = s.spr0hit := rfl
@[simp] theorem openGap_sprovf (s : State) : (openGap s).sprovf = s.sprovf := rfl
@[simp] theorem openGap_irqLine (s : State) : (openGap s).irqLine = s.irqLine := rfl
@[simp] theorem openGap_nmiEnable (s : State) : (openGap s).nmiEnable = s.nmiEnable := rfl
@[simp] theorem openGap_spriteSize (s : State) : (openGap s).spriteSize = s.spriteSize := rfl
@[simp] theorem openGap_bgPatternSel (s : State) : (openGap s).bgPatternSel = s.bgPatternSel := rfl
@[simp] theorem openGap_sprPatternSel (s : State) : (openGap s).sprPatternSel = s.sprPatternSel := rfl
@[simp] theorem openGap_vramInc32 (s : State) : (openGap s).vramInc32 = s.vramInc32 := rfl
@[simp] theorem openGap_grayscale (s : State) : (openGap s).grayscale = s.grayscale := rfl
@[simp] theorem openGap_bgEdgeClip (s : State) : (openGap s).bgEdgeClip = s.bgEdgeClip := rfl
@[simp] theorem openGap_sprEdgeClip (s : State) : (openGap s).sprEdgeClip = s.sprEdgeClip := rfl
@[simp] theorem openGap_bgEnable (s : State) : (openGap s).bgEnable = s.bgEnable := rfl
@[simp] theorem openGap_sprEnable (s : State) : (openGap s).sprEnable = s.sprEnable := rfl
@[simp] theorem openGap_emphasis (s : State) : (openGap s).emphasis = s.emphasis := rfl
@[simp] theorem openGap_pal (s : State) : (openGap s).pal = s.pal := rfl
@[simp] theorem openGap_oam (s : State) : (openGap s).oam = s.oam := rfl
@[simp] theorem openGap_fb (s : State) : (openGap s).fb = s.fb := rfl
@[simp] theorem openGap_bgLo (s : State) : (openGap s).bgLo = s.bgLo := rfl
@[simp] theorem openGap_bgHi (s : State) : (openGap s).bgHi = s.bgHi := rfl
@[simp] theorem openGap_bgAt (s : State) : (openGap s).bgAt = s.bgAt := rfl
@[simp] theorem openGap_sec (s : State) : (openGap s).sec = s.sec := rfl
@[simp] theorem openGap_spr (s : State) : (openGap s).spr = s.spr := rfl
@[simp] theorem openGap_secCount (s : State) : (openGap s).secCount = s.secCount := rfl
@[simp] theorem openGap_ntLatch (s : State) : (openGap s).ntLatch = s.ntLatch := rfl
@[simp] theorem openGap_atLatch (s : State) : (openGap s).atLatch = s.atLatch := rfl
@[simp] theorem openGap_loLatch (s : State) : (openGap s).loLatch = s.loLatch := rfl
@[simp] theorem openGap_hiLatch (s : State) : (openGap s).hiLatch = s.hiLatch := rfl
@[simp] theorem openGap_params (s : State) : (openGap s).params = s.params := rfl
@[simp] theorem openGap_mapper (s : State) : (openGap s).mapper = s.mapper := rfl
@[simp] theorem openGap_gap (s : State) : (openGap s).gap = nextGap (emit .handOver s) := rfl
@[simp] theorem openGap_schedule (s : State) : (openGap s).schedule = s.schedule.tail := rfl
@[simp] theorem openGap_cpu (s : State) : (openGap s).cpu = s.cpu := rfl
@[simp] theorem openGap_syncRequests (s : State) : (openGap s).syncRequests = s.syncRequests := rfl
@[simp] theorem openGap_log (s : State) : (openGap s).log = .handOver :: s.log := rfl

/-! ### stepV -/

@[simp] theorem stepV_v (s : State) : (stepV s).v = vAfterAccess s.v s.vramInc32 := rfl
@[simp] theorem stepV_t (s : State) : (stepV s).t = s.t := rfl
@[simp] theorem stepV_x (s : State) : (stepV s).x = s.x := rfl
@[simp] theorem stepV_w (s : State) : (stepV s).w = s.w := rfl
@[simp] theorem stepV_busLatch (s : State) : (stepV s).busLatch = s.busLatch := rfl
@[simp] theorem stepV_readBuffer (s : State) : (stepV s).readBuffer = s.readBuffer := rfl
@[simp] theorem stepV_oamAddr (s : State) : (stepV s).oamAddr = s.oamAddr := rfl
@[simp] theorem stepV_ly (s : State) : (stepV s).ly = s.ly := rfl
@[simp] theorem stepV_lx (s : State) : (stepV s).lx = s.lx := rfl
@[simp] theorem stepV_parity (s : State) : (stepV s).parity = s.parity := rfl
@[simp] theorem stepV_clock (s : State) : (stepV s).clock = s.clock := rfl
@[simp] theorem stepV_vblank (s : State) : (stepV s).vblank = s.vblank := rfl
@[simp] theorem stepV_spr0hit (s : State) : (stepV s).spr0hit = s.spr0hit := rfl
@[simp] theorem stepV_sprovf (s : State) : (stepV s).sprovf = s.sprovf := rfl
@[simp] theorem stepV_irqLine (s : State) : (stepV s).irqLine = s.irqLine := rfl
@[simp] theorem stepV_nmiEnable (s : State) : (stepV s).nmiEnable = s.nmiEnable := rfl
@[simp] theorem stepV_spriteSize (s : State) : (stepV s).spriteSize = s.spriteSize := rfl
@[simp] theorem stepV_bgPatternSel (s : State) : (stepV s).bgPatternSel = s.bgPatternSel := rfl
@[simp] theorem stepV_sprPatternSel (s : State) : (stepV s).sprPatternSel = s.sprPatternSel := rfl
@[simp] theorem stepV_vramInc32 (s : State) : (stepV s).vramInc32 = s.vramInc32 := rfl
@[simp] theorem stepV_grayscale (s : State) : (stepV s).grayscale = s.grayscale := rfl
@[simp] theorem stepV_bgEdgeClip (s : State) : (stepV s).bgEdgeClip = s.bgEdgeClip := rfl
@[simp] theorem stepV_sprEdgeClip (s : State) : (stepV s).sprEdgeClip = s.sprEdgeClip := rfl
@[simp] theorem stepV_bgEnable (s : State) : (stepV s).bgEnable = s.bgEnable := rfl
@[simp] theorem stepV_sprEnable (s : State) : (stepV s).sprEnable = s.sprEnable := rfl
@[simp] theorem stepV_emphasis (s : State) : (stepV s).emphasis = s.emphasis := rfl
@[simp] theorem stepV_pal (s : State) : (stepV s).pal = s.pal := rfl
@[simp] theorem stepV_oam (s : State) : (stepV s).oam = s.oam := rfl
@[simp] theorem stepV_fb (s : State) : (stepV s).fb = s.fb := rfl
@[simp] theorem stepV_bgLo (s : State) : (stepV s).bgLo = s.bgLo := rfl
@[simp] theorem stepV_bgHi (s : State) : (stepV s).bgHi = s.bgHi := rfl
@[simp] theorem stepV_bgAt (s : State) : (stepV s).bgAt = s.bgAt := rfl
@[simp] theorem stepV_sec (s : State) : (stepV s).sec = s.sec := rfl
@[simp] theorem stepV_spr (s : State) : (stepV s).spr = s.spr := rfl
@[simp] theorem stepV_secCount (s : State) : (stepV s).secCount = s.secCount := rfl
@[simp] theorem stepV_ntLatch (s : State) : (stepV s).ntLatch = s.ntLatch := rfl
@[simp] theorem stepV_atLatch (s : State) : (stepV s).atLatch = s.atLatch := rfl
@[simp] theorem stepV_loLatch (s : State) : (stepV s).loLatch = s.loLatch := rfl
@[simp] theorem stepV_hiLatch (s : State) : (stepV s).hiLatch = s.hiLatch := rfl
@[simp] theorem stepV_params (s : State) : (stepV s).params = s.params := rfl
@[simp] theorem stepV_mapper (s : State) : (stepV s).mapper = s.mapper := rfl
@[simp] theorem stepV_gap (s : State) : (stepV s).gap = s.gap := rfl
@[simp] theorem stepV_schedule (s : State) : (stepV s).schedule = s.schedule := rfl
@[simp] theorem stepV_cpu (s : State) : (stepV s).cpu = s.cpu := rfl
@[simp] theorem stepV_syncRequests (s : State) : (stepV s).syncRequests = s.syncRequests := rfl
@[simp] theorem stepV_log (s : State) : (stepV s).log = s.log := rfl

/-! ### Updates that are one record update or one event -/

theorem latchWrite_eq (d : Byte) (s : State) : latchWrite d s = { s with busLatch := d } := rfl

theorem answer_eq (port : BitVec 3) (value : Byte) (s : State) :
    answer port value s = { s with log := .portRead port value :: s.log } := rfl

theorem palWrite_eq (i : BitVec 5) (d : Byte) (s : State) :
    palWrite i d s = { s with pal := Memory.write s.pal (palKey s i) d } := rfl

theorem patWrite_eq (a : VAddr) (d : Byte) (s : State) :
    patWrite a d s = { s with mapper := mapperAfterWrite a d s.mapper, log := .patWrite a d :: s.log } := rfl

theorem ntWrite_eq (a : VAddr) (d : Byte) (s : State) :
    ntWrite a d s = { s with mapper := mapperAfterWrite a d s.mapper, log := .ntWrite a d :: s.log } := rfl

@[simp] theorem emit_rendering (e : Event) (s : State) : (emit e s).rendering = s.rendering := rfl

@[simp] theorem irqSet_rendering (b : Bool) (s : State) : (irqSet b s).rendering = s.rendering := rfl

@[simp] theorem openGap_rendering (s : State) : (openGap s).rendering = s.rendering := rfl

@[simp] theorem stepV_rendering (s : State) : (stepV s).rendering = s.rendering := rfl

/-! ### The next gap (R350) -/

/-- A gap given as data opens as it is. -/
theorem nextGap_listed {s : State} {g : List GapAction} {gs : List (List GapAction)} (h : s.schedule = g :: gs) :
    nextGap s = g := by
  simp only [nextGap, h]

/-- Past the given gaps a free CPU may do anything. -/
theorem nextGap_free {s : State} (h : s.schedule = []) (hc : s.cpu = .free) :
    nextGap s = Config.gapActions s.log s.irqLine := by
  simp only [nextGap, h, hc]

/-- Past the given gaps an idle CPU does nothing. -/
theorem nextGap_idle {s : State} (h : s.schedule = []) (hc : s.cpu = .idle) : nextGap s = [] := by
  simp only [nextGap, h, hc]

/-- Everything that opening a gap does. -/
theorem openGap_eq (s : State) :
    openGap s =
      { s with
        log := .handOver :: s.log, gap := nextGap { s with log := .handOver :: s.log }, schedule := s.schedule.tail } := rfl

/-! ### fetch: only the log changes (R94, R270) -/

/-- The event a routed read makes (R76). -/
def readEvent (a : VAddr) (s : State) : Event :=
  if a.toNat < 0x2000 then .patRead a (mapperReply s a) else .ntRead a (mapperReply s a)

/-- Everything a routed read does: the mapper's reply, and one event. -/
theorem memRead_eq (a : VAddr) (s : State) :
    memRead a s = (mapperReply s a, { s with log := readEvent a s :: s.log }) := by
  unfold memRead readEvent patRead ntRead emit
  split <;> rfl

/-- Everything a fetch does: with rendering enabled a routed read, else nothing. -/
theorem fetch_eq (a : VAddr) (s : State) :
    fetch a s =
      if s.rendering then (mapperReply s a, { s with log := readEvent a s :: s.log }) else (0x00#8, s) := by
  simp only [fetch, memRead_eq]

/-- The log after a fetch. -/
theorem fetch_log (a : VAddr) (s : State) :
    (fetch a s).2.log = if s.rendering then readEvent a s :: s.log else s.log := by
  rw [fetch_eq]
  split <;> rfl

/-- A fetch changes the log and nothing else. -/
theorem fetch_state (a : VAddr) (s : State) : (fetch a s).2 = { s with log := (fetch a s).2.log } := by
  rw [fetch_eq]
  split <;> rfl

@[simp] theorem fetch_v (a : VAddr) (s : State) : (fetch a s).2.v = s.v := by rw [fetch_state]
@[simp] theorem fetch_t (a : VAddr) (s : State) : (fetch a s).2.t = s.t := by rw [fetch_state]
@[simp] theorem fetch_x (a : VAddr) (s : State) : (fetch a s).2.x = s.x := by rw [fetch_state]
@[simp] theorem fetch_w (a : VAddr) (s : State) : (fetch a s).2.w = s.w := by rw [fetch_state]
@[simp] theorem fetch_busLatch (a : VAddr) (s : State) : (fetch a s).2.busLatch = s.busLatch := by rw [fetch_state]
@[simp] theorem fetch_readBuffer (a : VAddr) (s : State) : (fetch a s).2.readBuffer = s.readBuffer := by rw [fetch_state]
@[simp] theorem fetch_oamAddr (a : VAddr) (s : State) : (fetch a s).2.oamAddr = s.oamAddr := by rw [fetch_state]
@[simp] theorem fetch_ly (a : VAddr) (s : State) : (fetch a s).2.ly = s.ly := by rw [fetch_state]
@[simp] theorem fetch_lx (a : VAddr) (s : State) : (fetch a s).2.lx = s.lx := by rw [fetch_state]
@[simp] theorem fetch_parity (a : VAddr) (s : State) : (fetch a s).2.parity = s.parity := by rw [fetch_state]
@[simp] theorem fetch_clock (a : VAddr) (s : State) : (fetch a s).2.clock = s.clock := by rw [fetch_state]
@[simp] theorem fetch_vblank (a : VAddr) (s : State) : (fetch a s).2.vblank = s.vblank := by rw [fetch_state]
@[simp] theorem fetch_spr0hit (a : VAddr) (s : State) : (fetch a s).2.spr0hit = s.spr0hit := by rw [fetch_state]
@[simp] theorem fetch_sprovf (a : VAddr) (s : State) : (fetch a s).2.sprovf = s.sprovf := by rw [fetch_state]
@[simp] theorem fetch_irqLine (a : VAddr) (s : State) : (fetch a s).2.irqLine = s.irqLine := by rw [fetch_state]
@[simp] theorem fetch_nmiEnable (a : VAddr) (s : State) : (fetch a s).2.nmiEnable = s.nmiEnable := by rw [fetch_state]
@[simp] theorem fetch_spriteSize (a : VAddr) (s : State) : (fetch a s).2.spriteSize = s.spriteSize := by rw [fetch_state]
@[simp] theorem fetch_bgPatternSel (a : VAddr) (s : State) : (fetch a s).2.bgPatternSel = s.bgPatternSel := by rw [fetch_state]
@[simp] theorem fetch_sprPatternSel (a : VAddr) (s : State) : (fetch a s).2.sprPatternSel = s.sprPatternSel := by rw [fetch_state]
@[simp] theorem fetch_vramInc32 (a : VAddr) (s : State) : (fetch a s).2.vramInc32 = s.vramInc32 := by rw [fetch_state]
@[simp] theorem fetch_grayscale (a : VAddr) (s : State) : (fetch a s).2.grayscale = s.grayscale := by rw [fetch_state]
@[simp] theorem fetch_bgEdgeClip (a : VAddr) (s : State) : (fetch a s).2.bgEdgeClip = s.bgEdgeClip := by rw [fetch_state]
@[simp] theorem fetch_sprEdgeClip (a : VAddr) (s : State) : (fetch a s).2.sprEdgeClip = s.sprEdgeClip := by rw [fetch_state]
@[simp] theorem fetch_bgEnable (a : VAddr) (s : State) : (fetch a s).2.bgEnable = s.bgEnable := by rw [fetch_state]
@[simp] theorem fetch_sprEnable (a : VAddr) (s : State) : (fetch a s).2.sprEnable = s.sprEnable := by rw [fetch_state]
@[simp] theorem fetch_emphasis (a : VAddr) (s : State) : (fetch a s).2.emphasis = s.emphasis := by rw [fetch_state]
@[simp] theorem fetch_pal (a : VAddr) (s : State) : (fetch a s).2.pal = s.pal := by rw [fetch_state]
@[simp] theorem fetch_oam (a : VAddr) (s : State) : (fetch a s).2.oam = s.oam := by rw [fetch_state]
@[simp] theorem fetch_fb (a : VAddr) (s : State) : (fetch a s).2.fb = s.fb := by rw [fetch_state]
@[simp] theorem fetch_bgLo (a : VAddr) (s : State) : (fetch a s).2.bgLo = s.bgLo := by rw [fetch_state]
@[simp] theorem fetch_bgHi (a : VAddr) (s : State) : (fetch a s).2.bgHi = s.bgHi := by rw [fetch_state]
@[simp] theorem fetch_bgAt (a : VAddr) (s : State) : (fetch a s).2.bgAt = s.bgAt := by rw [fetch_state]
@[simp] theorem fetch_sec (a : VAddr) (s : State) : (fetch a s).2.sec = s.sec := by rw [fetch_state]
@[simp] theorem fetch_spr (a : VAddr) (s : State) : (fetch a s).2.spr = s.spr := by rw [fetch_state]
@[simp] theorem fetch_secCount (a : VAddr) (s : State) : (fetch a s).2.secCount = s.secCount := by rw [fetch_state]
@[simp] theorem fetch_ntLatch (a : VAddr) (s : State) : (fetch a s).2.ntLatch = s.ntLatch := by rw [fetch_state]
@[simp] theorem fetch_atLatch (a : VAddr) (s : State) : (fetch a s).2.atLatch = s.atLatch := by rw [fetch_state]
@[simp] theorem fetch_loLatch (a : VAddr) (s : State) : (fetch a s).2.loLatch = s.loLatch := by rw [fetch_state]
@[simp] theorem fetch_hiLatch (a : VAddr) (s : State) : (fetch a s).2.hiLatch = s.hiLatch := by rw [fetch_state]
@[simp] theorem fetch_params (a : VAddr) (s : State) : (fetch a s).2.params = s.params := by rw [fetch_state]
@[simp] theorem fetch_mapper (a : VAddr) (s : State) : (fetch a s).2.mapper = s.mapper := by rw [fetch_state]
@[simp] theorem fetch_gap (a : VAddr) (s : State) : (fetch a s).2.gap = s.gap := by rw [fetch_state]
@[simp] theorem fetch_schedule (a : VAddr) (s : State) : (fetch a s).2.schedule = s.schedule := by rw [fetch_state]
@[simp] theorem fetch_cpu (a : VAddr) (s : State) : (fetch a s).2.cpu = s.cpu := by rw [fetch_state]
@[simp] theorem fetch_syncRequests (a : VAddr) (s : State) : (fetch a s).2.syncRequests = s.syncRequests := by rw [fetch_state]

end Sys2Proof.Machine
end

