-- ==== Sys2Proof/Laws/Step.lean ====
section
/-! SUPPORT. What a step can do, said once: a step is an action of the gap or a dot step, a dot step is its
micro-operations one after the other and the next gap, and a property kept by each is kept by the step. -/

namespace Sys2Proof.Machine

@[simp] theorem runAll_nil (s : State) : runAll [] s = .next s := rfl

theorem runAll_cons {i : Instr} {is : List Instr} {s s' : State} (h : exec i s = .next s') :
    runAll (i :: is) s = runAll is s' := by
  simp only [runAll, h]

/-- A run that ends in a next state passed through the next state of its first instruction. -/
theorem runAll_cons_inv {i : Instr} {is : List Instr} {s s' : State} (h : runAll (i :: is) s = .next s') :
    ∃ m, exec i s = .next m ∧ runAll is m = .next s' := by
  unfold runAll at h
  split at h
  · exact ⟨_, ‹_›, h⟩
  · cases h
  · cases h

theorem runAll_append {is js : List Instr} {s m : State} (h : runAll is s = .next m) :
    runAll (is ++ js) s = runAll js m := by
  induction is generalizing s with
  | nil =>
    rw [runAll_nil] at h
    cases h
    rfl
  | cons i is ih =>
    obtain ⟨m', h1, h2⟩ := runAll_cons_inv h
    rw [List.cons_append, runAll_cons h1, ih h2]

/-- What every instruction of a list keeps, the list keeps. -/
theorem runAll_keeps {P : State → Prop} {is : List Instr}
    (hexec : ∀ i ∈ is, ∀ s s', P s → exec i s = .next s' → P s') :
    ∀ {s s' : State}, P s → runAll is s = .next s' → P s' := by
  induction is with
  | nil =>
    intro s s' hs h
    rw [runAll_nil] at h
    cases h
    exact hs
  | cons i is ih =>
    intro s s' hs h
    obtain ⟨m, h1, h2⟩ := runAll_cons_inv h
    exact ih (fun j hj => hexec j (List.mem_cons_of_mem _ hj)) (hexec i List.mem_cons_self s m hs h1) h2

theorem step_gap {s : State} {a : GapAction} {rest : List GapAction} (h : s.gap = a :: rest) :
    step s = gapStep a rest s := by
  simp only [step, h]

theorem step_dot {s : State} (h : s.gap = []) : step s = dotStep s := by
  simp only [step, h]

/-- A dot step that ends in a next state: its micro-operations ran, and the next gap opened. -/
theorem dotStep_inv {s s' : State} (h : dotStep s = .next s') :
    ∃ m, runAll (decodeDot s.ly s.lx) s = .next m ∧ s' = openGap m := by
  unfold dotStep at h
  split at h
  · cases h
    exact ⟨_, ‹_›, rfl⟩
  · cases h
  · cases h

/-- Every way a step can end in a next state: a transaction of the gap, the reset event, or a dot step. -/
theorem step_cases {s s' : State} (h : step s = .next s') :
    (∃ word rest, s.gap = .transaction word :: rest ∧ exec (decodePort s.w word) { s with gap := rest } = .next s') ∨
    (∃ rest, s.gap = .reset :: rest ∧ s' = resetEvent { s with gap := rest }) ∨
    (∃ m, s.gap = [] ∧ runAll (decodeDot s.ly s.lx) s = .next m ∧ s' = openGap m) := by
  match hg : s.gap with
  | .transaction word :: rest =>
    rw [step_gap hg] at h
    exact .inl ⟨word, rest, rfl, h⟩
  | .reset :: rest =>
    rw [step_gap hg] at h
    cases h
    exact .inr (.inl ⟨rest, rfl, rfl⟩)
  | [] =>
    rw [step_dot hg] at h
    obtain ⟨m, h1, h2⟩ := dotStep_inv h
    exact .inr (.inr ⟨m, rfl, h1, h2⟩)

/-! ### Runs of several steps -/

@[simp] theorem runSteps_zero (s : State) : runSteps 0 s = .next s := rfl

theorem runSteps_succ {n : Nat} {s m : State} (h : step s = .next m) : runSteps (n + 1) s = runSteps n m := by
  simp only [runSteps, h]

theorem runSteps_add {m n : Nat} {s s' : State} (h : runSteps m s = .next s') : runSteps (m + n) s = runSteps n s' := by
  induction m generalizing s with
  | zero =>
    rw [runSteps_zero] at h
    cases h
    rw [Nat.zero_add]
  | succ m ih =>
    unfold runSteps at h
    split at h
    · rename_i s1 h1
      rw [show m + 1 + n = (m + n) + 1 by omega, runSteps_succ h1]
      exact ih h
    · cases h
    · cases h

end Sys2Proof.Machine
end

