-- ==== Sys2Proof/Laws/Exec.lean ====
section
/-! SUPPORT. What the shared operations behind the meanings can do, each said once, and that every meaning answers a next
state. -/

namespace Sys2Proof.Machine

/-- No meaning stops (spec/60_exceptions.md R340). -/
theorem exec_completes (i : Instr) (s : State) : ∃ s', exec i s = .next s' := by
  cases i
  case syncchk =>
    simp only [exec, execSyncchk]
    split
    · exact ⟨_, rfl⟩
    · exact ⟨_, rfl⟩
    · exact ⟨_, rfl⟩
  all_goals exact ⟨_, rfl⟩

/-- Every list of instructions runs to its end. -/
theorem runAll_completes (is : List Instr) (s : State) : ∃ s', runAll is s = .next s' := by
  induction is generalizing s with
  | nil => exact ⟨s, rfl⟩
  | cons i is ih =>
    obtain ⟨m, h⟩ := exec_completes i s
    rw [runAll_cons h]
    exact ih m

/-- R94: with rendering disabled a fetch makes no call and gives 0x00. -/
theorem fetch_off {s : State} (h : s.rendering = false) (a : VAddr) : fetch a s = (0x00#8, s) := by
  simp [fetch, h]

/-- With rendering enabled a fetch is a routed read. -/
theorem fetch_on {s : State} (h : s.rendering = true) (a : VAddr) :
    fetch a s = (mapperReply s a, { s with log := readEvent a s :: s.log }) := by
  rw [fetch_eq, h]
  rfl

/-- Everything a routed write can do (R77): the mapper and its log, or the palette. -/
theorem memWrite_cases (a : VAddr) (d : Byte) (s : State) :
    (a.toNat < 0x2000 ∧
      memWrite a d s = { s with mapper := mapperAfterWrite a d s.mapper, log := .patWrite a d :: s.log }) ∨
    (0x2000 ≤ a.toNat ∧ a.toNat < 0x3F00 ∧
      memWrite a d s = { s with mapper := mapperAfterWrite a d s.mapper, log := .ntWrite a d :: s.log }) ∨
    (0x3F00 ≤ a.toNat ∧ memWrite a d s = { s with pal := Memory.write s.pal (palKey s (a.extractLsb' 0 5)) d }) := by
  unfold memWrite
  split
  · exact .inl ⟨‹_›, rfl⟩
  · split
    · exact .inr (.inl ⟨by omega, ‹_›, rfl⟩)
    · exact .inr (.inr ⟨by omega, rfl⟩)

/-- A palette index is below 32. -/
theorem palKey_lt (s : State) (i : BitVec 5) : palKey s i < 32 := (paletteFold s.params.paletteMirror i).isLt

/-- R199: everything an operation on `v` can do. -/
theorem setVIfRendering_cases (v : VReg) (s : State) :
    (s.rendering = true ∧ setVIfRendering v s = { s with v := v }) ∨
    (s.rendering = false ∧ setVIfRendering v s = s) := by
  unfold setVIfRendering
  cases h : s.rendering
  · exact .inr ⟨rfl, rfl⟩
  · exact .inl ⟨rfl, rfl⟩

/-- R213: everything an EVAL can do. -/
theorem execEval_cases (n : BitVec 6) (s : State) :
    exec (.eval n) s = .next s ∨
    (s.secCount = 8#4 ∧ exec (.eval n) s = .next { s with sprovf := true }) ∨
    (s.secCount ≠ 8#4 ∧ s.rendering = true ∧
      spriteMatches s.spriteSize s.ly (Memory.read s.oam (oamKey n 0)) = true ∧
      exec (.eval n) s = .next { s with
        sec := s.sec.setIfInBounds s.secCount.toNat (evalEntry n s), secCount := s.secCount + 1#4 }) := by
  simp only [exec, execEval, evalSprite, bankFull]
  cases hr : s.rendering
  · exact .inl rfl
  · cases hm : spriteMatches s.spriteSize s.ly (Memory.read s.oam (oamKey n 0))
    · exact .inl rfl
    · by_cases hc : s.secCount = 8#4
      · exact .inr (.inl ⟨hc, by simp [hc]⟩)
      · exact .inr (.inr ⟨hc, rfl, rfl, by simp [hc]⟩)

/-- R212: no sprite matches on the pre-render line. -/
theorem spriteMatches_preRender (size : Bool) (y : Byte) : spriteMatches size 261#9 y = false := by
  simp [spriteMatches, rowDiff, evalLine]
  omega

end Sys2Proof.Machine
end

