-- ==== Sys2Proof/Laws/PerInstr.lean ====
section
/-! SUPPORT. Statements made for every instruction. RowMatches: the encoder meets the match and mask of the instruction's row
of spec/opcode_table.json (spec/30_encoding.md R113, R117). -/

namespace Sys2Proof.Laws

/-- The mask and the match of an instruction's row, copied from spec/opcode_table.json. -/
def tableRow : Instr → Nat × Nat
  | .r0 => (0xF00, 0x000)
  | .r1 => (0xF00, 0x100)
  | .r2 => (0xF00, 0x200)
  | .r3 => (0xF00, 0x300)
  | .r4 => (0xF00, 0x400)
  | .r5 => (0xF00, 0x500)
  | .r6 => (0xF00, 0x600)
  | .r7 => (0xF00, 0x700)
  | .w0 _ => (0xF00, 0x800)
  | .w1 _ => (0xF00, 0x900)
  | .w2 _ => (0xF00, 0xA00)
  | .w3 _ => (0xF00, 0xB00)
  | .w4 _ => (0xF00, 0xC00)
  | .w5a _ => (0xF00, 0xD00)
  | .w5b _ => (0xF00, 0xD00)
  | .w6a _ => (0xF00, 0xE00)
  | .w6b _ => (0xF00, 0xE00)
  | .w7 _ => (0xF00, 0xF00)
  | .syncchk => (0x1FF, 0x000)
  | .ls241 => (0x1FF, 0x000)
  | .ls261 => (0x1FF, 0x000)
  | .prefill => (0x1FF, 0x000)
  | .ntf => (0x107, 0x000)
  | .atf => (0x107, 0x002)
  | .plf => (0x107, 0x004)
  | .phf => (0x107, 0x006)
  | .pixel _ => (0x100, 0x000)
  | .eval _ => (0x103, 0x003)
  | .reload => (0x107, 0x007)
  | .incx => (0x107, 0x007)
  | .incy => (0x1FF, 0x0FF)
  | .bankcopy => (0x1FF, 0x100)
  | .copyh => (0x1FF, 0x101)
  | .copyv => (0x1FF, 0x130)
  | .sntf => (0x1C7, 0x100)
  | .satf => (0x1C7, 0x102)
  | .splf _ => (0x1C7, 0x104)
  | .sphf _ => (0x1C7, 0x106)
  | .pntf => (0x1F7, 0x140)
  | .patf => (0x1F7, 0x142)
  | .pplf => (0x1F7, 0x144)
  | .pphf => (0x1F7, 0x146)
  | .preload => (0x1F7, 0x147)
  | .pincx => (0x1F7, 0x147)
  | .idlef1 => (0x1FF, 0x150)
  | .idlef2 => (0x1FF, 0x152)
  | .advance => (0x000, 0x000)

namespace RowMatches

/-- `(word & mask) = match` for the encoder's word or dot. -/
def Statement (i : Instr) : Prop :=
  match encode i with
  | .port word => word.toNat &&& (tableRow i).1 = (tableRow i).2
  | .dot _ lx => lx.toNat &&& (tableRow i).1 = (tableRow i).2

theorem r0 : Statement .r0 := by
  unfold Statement encode tableRow
  decide

theorem r1 : Statement .r1 := by
  unfold Statement encode tableRow
  decide

theorem r2 : Statement .r2 := by
  unfold Statement encode tableRow
  decide

theorem r3 : Statement .r3 := by
  unfold Statement encode tableRow
  decide

theorem r4 : Statement .r4 := by
  unfold Statement encode tableRow
  decide

theorem r5 : Statement .r5 := by
  unfold Statement encode tableRow
  decide

theorem r6 : Statement .r6 := by
  unfold Statement encode tableRow
  decide

theorem r7 : Statement .r7 := by
  unfold Statement encode tableRow
  decide

theorem w0 (d : Byte) : Statement (.w0 d) := by
  revert d
  unfold Statement encode tableRow
  decide

theorem w1 (d : Byte) : Statement (.w1 d) := by
  revert d
  unfold Statement encode tableRow
  decide

theorem w2 (d : Byte) : Statement (.w2 d) := by
  revert d
  unfold Statement encode tableRow
  decide

theorem w3 (d : Byte) : Statement (.w3 d) := by
  revert d
  unfold Statement encode tableRow
  decide

theorem w4 (d : Byte) : Statement (.w4 d) := by
  revert d
  unfold Statement encode tableRow
  decide

theorem w5a (d : Byte) : Statement (.w5a d) := by
  revert d
  unfold Statement encode tableRow
  decide

theorem w5b (d : Byte) : Statement (.w5b d) := by
  revert d
  unfold Statement encode tableRow
  decide

theorem w6a (d : Byte) : Statement (.w6a d) := by
  revert d
  unfold Statement encode tableRow
  decide

theorem w6b (d : Byte) : Statement (.w6b d) := by
  revert d
  unfold Statement encode tableRow
  decide

theorem w7 (d : Byte) : Statement (.w7 d) := by
  revert d
  unfold Statement encode tableRow
  decide

theorem syncchk : Statement .syncchk := by
  unfold Statement encode tableRow
  decide

theorem ls241 : Statement .ls241 := by
  unfold Statement encode tableRow
  decide

theorem ls261 : Statement .ls261 := by
  unfold Statement encode tableRow
  decide

theorem prefill : Statement .prefill := by
  unfold Statement encode tableRow
  decide

theorem ntf : Statement .ntf := by
  unfold Statement encode tableRow
  decide

theorem atf : Statement .atf := by
  unfold Statement encode tableRow
  decide

theorem plf : Statement .plf := by
  unfold Statement encode tableRow
  decide

theorem phf : Statement .phf := by
  unfold Statement encode tableRow
  decide

theorem pixel (col : BitVec 8) : Statement (.pixel col) := by
  revert col
  unfold Statement encode tableRow
  decide

theorem eval (n : BitVec 6) : Statement (.eval n) := by
  revert n
  unfold Statement encode tableRow
  decide

theorem reload : Statement .reload := by
  unfold Statement encode tableRow
  decide

theorem incx : Statement .incx := by
  unfold Statement encode tableRow
  decide

theorem incy : Statement .incy := by
  unfold Statement encode tableRow
  decide

theorem bankcopy : Statement .bankcopy := by
  unfold Statement encode tableRow
  decide

theorem copyh : Statement .copyh := by
  unfold Statement encode tableRow
  decide

theorem copyv : Statement .copyv := by
  unfold Statement encode tableRow
  decide

theorem sntf : Statement .sntf := by
  unfold Statement encode tableRow
  decide

theorem satf : Statement .satf := by
  unfold Statement encode tableRow
  decide

theorem splf (slot : BitVec 3) : Statement (.splf slot) := by
  revert slot
  unfold Statement encode tableRow
  decide

theorem sphf (slot : BitVec 3) : Statement (.sphf slot) := by
  revert slot
  unfold Statement encode tableRow
  decide

theorem pntf : Statement .pntf := by
  unfold Statement encode tableRow
  decide

theorem patf : Statement .patf := by
  unfold Statement encode tableRow
  decide

theorem pplf : Statement .pplf := by
  unfold Statement encode tableRow
  decide

theorem pphf : Statement .pphf := by
  unfold Statement encode tableRow
  decide

theorem preload : Statement .preload := by
  unfold Statement encode tableRow
  decide

theorem pincx : Statement .pincx := by
  unfold Statement encode tableRow
  decide

theorem idlef1 : Statement .idlef1 := by
  unfold Statement encode tableRow
  decide

theorem idlef2 : Statement .idlef2 := by
  unfold Statement encode tableRow
  decide

theorem advance : Statement .advance := by
  unfold Statement encode tableRow
  decide

end RowMatches

end Sys2Proof.Laws
end

