-- ==== Sys2Proof/Tests/Slice0.lean ====
section
/-! SUPPORT. The model's own tests. Expected results come from the vectors of spec/95_test_vectors.md (their ids stand in the
comments), from the worked examples of the rules, or from the tables of spec/30_encoding.md. -/

namespace Sys2Proof.Machine.Tests

/-! ### Helpers -/

/-- The next state, if there is one. -/
def nextOf (r : Result) : Option State :=
  match r with
  | .next s => some s
  | .fault _ => none
  | .refused _ => none

/-- One instruction, seen through `f`. -/
def after {α : Type} (i : Instr) (s : State) (f : State → α) : Option α := (nextOf (exec i s)).map f

/-- One step, seen through `f`. -/
def afterStep {α : Type} (s : State) (f : State → α) : Option α := (nextOf (step s)).map f

/-- A plain read-only mapper memory with these bytes. -/
def mem (cells : List (Nat × Byte)) : Mapper := .memory { cells := cells, patternIsRam := false, pages := none }

/-- Reset, with a CPU that asks for nothing (log entry 2). -/
def quiet : State := { State.reset with gap := [], cpu := .idle }

/-- The same, with rendering of the background enabled. -/
def on : State := { quiet with bgEnable := true }

/-- A state at a position. -/
def posAt (ly lx : Dot) (s : State) : State := { s with ly := ly, lx := lx }

/-- A mapper call and a returned byte, the two kinds of event a data read makes. -/
def sees (e : Event) (s : State) : Bool := s.log.contains e

/-! ### WellFormed: each check refuses an ill-formed term -/

theorem test_wf_line_262_refused : (Selector.dot 262#9 0#9).wellFormed = false := by decide
theorem test_wf_dot_341_refused : (Selector.dot 0#9 341#9).wellFormed = false := by decide
theorem test_wf_last_dot_accepted : (Selector.dot 261#9 340#9).wellFormed = true := by decide
theorem test_wf_port_number_4096_refused : fitsPortWord 4096 = false := by decide
theorem test_wf_dot_number_512_refused : fitsDotWord 512 = false := by decide
theorem test_table_word_too_wide_refused : decodeTableWord 16 0x1000 = none := by decide

/-! ### Decoding: words written out from R113, positions from R117 and R118 -/

theorem test_decode_reads :
    decodePort false 0b000000000000#12 = .r0 ∧ decodePort true 0b000100000000#12 = .r1 ∧
    decodePort false 0b001000000000#12 = .r2 ∧ decodePort false 0b001110101010#12 = .r3 ∧
    decodePort false 0b010000000000#12 = .r4 ∧ decodePort true 0b010100000000#12 = .r5 ∧
    decodePort false 0b011011111111#12 = .r6 ∧ decodePort false 0b011100000000#12 = .r7 := by decide

theorem test_decode_writes :
    decodePort false 0b100010000010#12 = .w0 0x82#8 ∧ decodePort false 0b100100011110#12 = .w1 0x1E#8 ∧
    decodePort false 0b101011111111#12 = .w2 0xFF#8 ∧ decodePort true 0b101111111100#12 = .w3 0xFC#8 ∧
    decodePort false 0b110000010010#12 = .w4 0x12#8 ∧ decodePort false 0b110101111101#12 = .w5a 0x7D#8 ∧
    decodePort true 0b110101011110#12 = .w5b 0x5E#8 ∧ decodePort false 0b111000111111#12 = .w6a 0x3F#8 ∧
    decodePort true 0b111000001000#12 = .w6b 0x08#8 ∧ decodePort false 0b111100100001#12 = .w7 0x21#8 := by decide

/-- R111: the port is the CPU address modulo 8 (0x2007 and 0x3FFF are port 7). -/
theorem test_port_is_address_modulo_8 :
    portWord false 0x2007 0#8 = 0x700#12 ∧ portWord true 0x3FFF 0x21#8 = 0xF21#12 := by decide

/-- R118, first example, in the order of R231: (10, 11). -/
theorem test_decode_dot_10_11 : decodeDot 10#9 11#9 = [.pixel 11#8, .eval 2#6, .advance] := by decide

/-- R118, second example, in the order of R231: (261, 304), COPYV (its condition in the meaning, log entry 13) before SNTF. -/
theorem test_decode_dot_261_304 : decodeDot 261#9 304#9 = [.copyv, .sntf, .advance] := by decide

/-- R118, third example: line 245. -/
theorem test_decode_dot_245_7 : decodeDot 245#9 7#9 = [.advance] := by decide

theorem test_decode_dot_line_starts :
    decodeDot 0#9 0#9 = [.syncchk, .prefill, .ntf, .pixel 0#8, .advance] ∧
    decodeDot 240#9 0#9 = [.syncchk, .advance] ∧ decodeDot 241#9 0#9 = [.syncchk, .ls241, .advance] ∧
    decodeDot 261#9 0#9 = [.syncchk, .ls261, .prefill, .ntf, .advance] := by decide

theorem test_decode_dot_tile_group :
    decodeDot 0#9 2#9 = [.atf, .pixel 2#8, .advance] ∧ decodeDot 0#9 4#9 = [.plf, .pixel 4#8, .advance] ∧
    decodeDot 261#9 6#9 = [.phf, .advance] ∧
    decodeDot 0#9 255#9 = [.pixel 255#8, .eval 63#6, .reload, .incx, .incy, .advance] := by decide

theorem test_decode_dot_sprite_group :
    decodeDot 0#9 256#9 = [.bankcopy, .sntf, .advance] ∧ decodeDot 0#9 257#9 = [.copyh, .advance] ∧
    decodeDot 0#9 258#9 = [.satf, .advance] ∧ decodeDot 0#9 260#9 = [.splf 0#3, .advance] ∧
    decodeDot 0#9 318#9 = [.sphf 7#3, .advance] := by decide

theorem test_decode_dot_prefetch :
    decodeDot 0#9 320#9 = [.pntf, .advance] ∧ decodeDot 0#9 330#9 = [.patf, .advance] ∧
    decodeDot 0#9 332#9 = [.pplf, .advance] ∧ decodeDot 0#9 326#9 = [.pphf, .advance] ∧
    decodeDot 0#9 335#9 = [.preload, .pincx, .advance] ∧ decodeDot 0#9 336#9 = [.idlef1, .advance] ∧
    decodeDot 0#9 338#9 = [.idlef2, .advance] ∧ decodeDot 0#9 340#9 = [.advance] := by decide

/-- The table's interface and the next step agree on rows of both formats. -/
theorem test_table_words :
    decodeTableWord 16 0x200 = some .r2 ∧ decodeTableWord 16 0xD00 = some (.w5a 0#8) ∧
    decodeTableWord 16 0x0FF = some .incy ∧ decodeTableWord 16 0x130 = some .copyv ∧
    decodeTableWord 9 0x100 = some .bankcopy := by decide

/-- A placed word is what the next step runs. -/
theorem test_with_fetch_word :
    afterStep (State.reset.withFetchWord 16 0xB5A) (·.oamAddr) = some 0x5A#8 ∧
    afterStep (State.reset.withFetchWord 16 0x130) (fun s => (s.ly, s.lx)) = some (261#9, 305#9) := by decide

/-! ### Port reads (R140 to R147) -/

/-- RD1. -/
theorem test_latch_reads :
    (∀ i ∈ [Instr.r0, .r1, .r3, .r5, .r6],
      after i { quiet with busLatch := 0x5A#8, w := true } (fun s => (s.busLatch, s.w)) = some (0x5A#8, true)) ∧
    after .r5 { quiet with busLatch := 0x5A#8 } (·.log) = some [.portRead 5#3 0x5A#8] := by decide

/-- RD2. -/
theorem test_r2_returns_and_clears :
    after .r2 { quiet with vblank := true, spr0hit := true, busLatch := 0xFF#8, w := true, irqLine := true }
      (fun s => (s.vblank, s.w, s.irqLine, s.spr0hit, s.log)) =
    some (false, false, false, true, [.portRead 2#3 0xDF#8, .irqSet false]) := by decide

/-- RD5. -/
theorem test_r2_keeps_overflow :
    after .r2 { quiet with sprovf := true, busLatch := 0x1E#8 } (fun s => (s.sprovf, sees (.portRead 2#3 0x3E#8) s)) =
    some (true, true) := by decide

/-- RD6, RD7, RD8. -/
theorem test_r4_mask :
    after .r4 { quiet with oam := [(7, 0xF3#8)], oamAddr := 7#8 } (·.log) = some [.portRead 4#3 0x13#8] ∧
    after .r4 { quiet with oam := [(6, 0xF3#8)], oamAddr := 6#8 } (·.log) = some [.portRead 4#3 0xF3#8] ∧
    after .r4 { quiet with oam := [(6, 0xF3#8)], oamAddr := 6#8, params := { Params.defaults with oamDataMaskSel := 2#2, oamDataMask := 0xE3#8 } } (·.log) =
      some [.portRead 4#3 0xE3#8] := by decide

/-- RD9, RD10. -/
theorem test_r7_buffered :
    after .r7 { quiet with v := 0x2000#15, mapper := mem [(0x2000, 0xAA#8)] } (fun s => (s.readBuffer, s.v, s.log)) =
      some (0xAA#8, 0x2001#15, [.portRead 7#3 0x00#8, .ntRead 0x2000#14 0xAA#8]) ∧
    after .r7 { quiet with v := 0x0010#15, readBuffer := 0x77#8, vramInc32 := true, mapper := mem [(0x10, 0xFF#8)] }
      (fun s => (s.readBuffer, s.v, s.log)) =
      some (0xFF#8, 0x0030#15, [.portRead 7#3 0x77#8, .patRead 0x0010#14 0xFF#8]) := by decide

/-- RD12, RD13, RD14, RD15. -/
theorem test_r7_palette :
    after .r7 { quiet with v := 0x3F00#15, pal := [(0, 0x2D#8)], grayscale := true, mapper := mem [(0x3F00, 0x99#8)] }
      (fun s => (s.readBuffer, s.v, s.log)) =
      some (0x99#8, 0x3F01#15, [.portRead 7#3 0x20#8, .ntRead 0x3F00#14 0x99#8]) ∧
    after .r7 { quiet with v := 0x3F10#15, pal := [(0, 0x2D#8)], mapper := mem [] } (sees (.portRead 7#3 0x2D#8)) =
      some true ∧
    after .r7 { quiet with v := 0x7FFF#15, mapper := mem [] } (fun s => (s.v, sees (.ntRead 0x3FFF#14 0#8) s)) =
      some (0x0000#15, true) ∧
    after .r7 { quiet with v := 0x3EFF#15, readBuffer := 0x12#8, mapper := mem [] }
      (fun s => (s.v, sees (.portRead 7#3 0x12#8) s)) = some (0x3F00#15, true) := by decide

/-! ### Port writes (R160 to R170) -/

/-- WR1. -/
theorem test_w0_raises_line :
    after (.w0 0x82#8) { quiet with t := 0x616F#15, vblank := true }
      (fun s => (s.nmiEnable, s.vramInc32, s.t, s.irqLine, s.busLatch)) =
    some (true, false, 0x696F#15, true, 0x82#8) := by decide

/-- WR2. -/
theorem test_w0_fields :
    after (.w0 0x7C#8) { quiet with t := 0x7FFF#15 }
      (fun s => (s.nmiEnable, s.spriteSize, s.bgPatternSel, s.sprPatternSel, s.vramInc32, s.t)) =
    some (false, true, true, true, true, 0x73FF#15) := by decide

/-- WR3, WR4. -/
theorem test_w1_fields :
    after (.w1 0x1E#8) quiet (fun s => (s.emphasis, [s.sprEnable, s.bgEnable, s.sprEdgeClip, s.bgEdgeClip, s.grayscale])) =
      some (0#3, [true, true, false, false, false]) ∧
    after (.w1 0xE9#8) quiet (fun s => (s.emphasis, [s.sprEnable, s.bgEnable, s.sprEdgeClip, s.bgEdgeClip, s.grayscale])) =
      some (7#3, [false, true, true, true, true]) := by decide

/-- WR5. -/
theorem test_w2_only_latch : after (.w2 0xFF#8) quiet id = some { quiet with busLatch := 0xFF#8 } := by decide

/-- WR19. -/
theorem test_w3 : after (.w3 0xFC#8) quiet (·.oamAddr) = some 0xFC#8 := by decide

/-- WR6. -/
theorem test_w4_wraps :
    after (.w4 0x12#8) { quiet with oamAddr := 0xFF#8 } (fun s => (s.oam, s.oamAddr)) =
    some ([(255, 0x12#8)], 0x00#8) := by decide

/-- WR7. -/
theorem test_w5_pair :
    after (.w5a 0x7D#8) quiet (fun s => (s.x, s.t, s.w)) = some (5#3, 0x000F#15, true) ∧
    after (.w5b 0x5E#8) { quiet with t := 0x000F#15, w := true } (fun s => (s.t, s.w, s.v)) =
      some (0x616F#15, false, 0#15) := by decide

/-- WR9, WR10, WR11. -/
theorem test_w6_pair :
    after (.w6a 0xFF#8) { quiet with t := 0x616F#15 } (fun s => (s.t, s.w, s.v)) = some (0x3F6F#15, true, 0#15) ∧
    after (.w6b 0x00#8) { quiet with t := 0x3F6F#15, w := true } (fun s => (s.t, s.v, s.w)) =
      some (0x3F00#15, 0x3F00#15, false) ∧
    after (.w6b 0x34#8) { quiet with t := 0x7000#15, w := true } (·.v) = some 0x7034#15 := by decide

/-- WR12 to WR15. -/
theorem test_w7_palette :
    after (.w7 0x21#8) { quiet with v := 0x3F00#15 } (fun s => (s.pal, s.v, s.log)) =
      some ([(0, 0x21#8)], 0x3F01#15, []) ∧
    after (.w7 0x2D#8) { quiet with v := 0x3F10#15 } (·.pal) = some [(0, 0x2D#8)] ∧
    after (.w7 0xFF#8) { quiet with v := 0x3F04#15 } (·.pal) = some [(4, 0xFF#8)] ∧
    after (.w7 0x11#8) { quiet with v := 0x3FE0#15, vramInc32 := true } (fun s => (s.pal, s.v)) =
      some ([(0, 0x11#8)], 0x4000#15) := by decide

/-- WR16, WR17, WR18. -/
theorem test_w7_mapper :
    after (.w7 0xAA#8) { quiet with v := 0x2000#15 } (fun s => (s.log, s.v)) =
      some ([.ntWrite 0x2000#14 0xAA#8], 0x2001#15) ∧
    after (.w7 0x01#8) { quiet with v := 0x1FFF#15 } (fun s => (s.log, s.v)) =
      some ([.patWrite 0x1FFF#14 0x01#8], 0x2000#15) ∧
    after (.w7 0x02#8) { quiet with v := 0x3000#15 } (·.log) = some [.ntWrite 0x3000#14 0x02#8] := by decide

/-! ### Scroll algebra (R195 to R199) -/

/-- `v` after an operation with rendering enabled. -/
def vAfter (i : Instr) (v : VReg) : Option VReg := after i { on with v := v } (·.v)

/-- SC3, SC4, SC5, SC6. -/
theorem test_incx :
    vAfter .incx 0x001F#15 = some 0x0400#15 ∧ vAfter .incx 0x041F#15 = some 0x0000#15 ∧
    vAfter .incx 0x7FFF#15 = some 0x7BE0#15 ∧ vAfter .pincx 0x7BFE#15 = some 0x7BFF#15 := by decide

/-- SC11 to SC19. -/
theorem test_incy :
    vAfter .incy 0x7000#15 = some 0x0020#15 ∧ vAfter .incy 0x7380#15 = some 0x03A0#15 ∧
    vAfter .incy 0x73A0#15 = some 0x0800#15 ∧ vAfter .incy 0x7BA0#15 = some 0x0000#15 ∧
    vAfter .incy 0x73C0#15 = some 0x03E0#15 ∧ vAfter .incy 0x73E0#15 = some 0x0000#15 ∧
    vAfter .incy 0x7FFF#15 = some 0x0C1F#15 ∧ vAfter .incy 0x6000#15 = some 0x7000#15 := by decide

/-- SC20, SC21, SC22, SC23. -/
theorem test_copies :
    after .copyh { on with v := 0x7BE0#15, t := 0x041F#15 } (·.v) = some 0x7FFF#15 ∧
    after .copyh { on with v := 0x7FFF#15, t := 0x0000#15 } (·.v) = some 0x7BE0#15 ∧
    after .copyh { on with v := 0x0000#15, t := 0x7FFF#15 } (·.v) = some 0x041F#15 ∧
    after .copyv { on with v := 0x1234#15, t := 0x616F#15 } (·.v) = some 0x616F#15 := by decide

/-- SC24. -/
theorem test_gating :
    ∀ i ∈ [Instr.incx, .pincx, .incy, .copyh, .copyv],
      after i { quiet with v := 0x1234#15, t := 0x7FFF#15 } (·.v) = some 0x1234#15 := by decide

/-! ### Sprite evaluator (R210 to R217) -/

/-- EVAL of sprite 0 on a line with `OAM[0..3]` as given; what slot 0 and the count become. -/
def evalOn (ly : Dot) (size : Bool) (y : Byte) : Option (List Nat) :=
  after (.eval 0#6)
    { on with ly := ly, spriteSize := size, oam := [(0, y), (1, 0x07#8), (2, 0x41#8), (3, 0x50#8)],
              sec := Vector.replicate 8 SpriteEntry.sentinel }
    (fun s => [(s.sec[0]).id.toNat, (s.sec[0]).row.toNat, s.secCount.toNat])

/-- EV1 to EV7. -/
theorem test_eval_rows :
    evalOn 47#9 false 0x30#8 = some [64, 0, 0] ∧ evalOn 48#9 false 0x30#8 = some [0, 0, 1] ∧
    evalOn 55#9 false 0x30#8 = some [0, 7, 1] ∧ evalOn 56#9 false 0x30#8 = some [64, 0, 0] ∧
    evalOn 63#9 true 0x30#8 = some [0, 15, 1] ∧ evalOn 64#9 true 0x30#8 = some [64, 0, 0] := by
  decide

/-- EV8 to EV12. -/
theorem test_eval_edges :
    evalOn 239#9 false 0xEF#8 = some [0, 0, 1] ∧ evalOn 239#9 false 0xF0#8 = some [64, 0, 0] ∧
    evalOn 261#9 false 0x00#8 = some [64, 0, 0] ∧ evalOn 261#9 false 0xFF#8 = some [64, 0, 0] ∧
    after (.eval 8#6) { on with ly := 48#9, oam := [(32, 0x30#8)], secCount := 8#4 } (fun s => (s.sprovf, s.secCount)) =
      some (true, 8#4) := by decide

/-- EV15, EV16. -/
theorem test_banks :
    after .prefill { quiet with secCount := 5#4 } (fun s => (s.sec[5], s.secCount)) = some (SpriteEntry.sentinel, 0#4) ∧
    after .bankcopy { quiet with sec := Vector.replicate 8 SpriteEntry.sentinel } (fun s => (s.spr[7]).id) =
      some 64#7 := by decide

/-! ### Raster state machine (R230 to R252) -/

/-- RA1, RA2, RA3. -/
theorem test_positions :
    afterStep quiet (fun s => (s.ly, s.lx, s.clock)) = some (0#9, 1#9, 4) ∧
    afterStep (posAt 0#9 340#9 quiet) (fun s => (s.ly, s.lx)) = some (1#9, 0#9) := by decide

/-- RA4, IQ1, IQ2. -/
theorem test_ls241 :
    afterStep (posAt 241#9 0#9 quiet) (fun s => (s.vblank, s.irqLine)) = some (true, false) ∧
    afterStep (posAt 241#9 0#9 { quiet with nmiEnable := true }) (fun s => (s.vblank, s.irqLine)) = some (true, true) := by
  decide

/-- RA6. -/
theorem test_ls261 :
    afterStep (posAt 261#9 0#9 { quiet with vblank := true, spr0hit := true, sprovf := true, irqLine := true })
      (fun s => (s.vblank, s.spr0hit, s.sprovf, s.irqLine)) = some (false, false, false, false) := by decide

/-- RA7, RA10, RA11, RA12. -/
theorem test_end_of_frame :
    afterStep (posAt 261#9 340#9 quiet) (fun s => (s.ly, s.lx, s.parity, s.log)) =
      some (0#9, 0#9, true, [.handOver, .frameEvent, .frameReady []]) ∧
    afterStep (posAt 261#9 339#9 { on with parity := true }) (fun s => (s.ly, s.lx, s.parity)) = some (0#9, 0#9, false) ∧
    afterStep (posAt 261#9 339#9 { quiet with parity := true }) (fun s => (s.ly, s.lx)) = some (261#9, 340#9) ∧
    afterStep (posAt 261#9 339#9 on) (fun s => (s.ly, s.lx)) = some (261#9, 340#9) := by decide

/-- R247. -/
theorem test_syncchk :
    after .syncchk { quiet with syncRequests := [true, false] } (fun s => (s.log, s.syncRequests)) =
      some ([.syncExit], [false]) ∧
    after .syncchk quiet id = some quiet := by decide

/-! ### Background fetch (R270 to R279) -/

/-- BF1 to BF5: nametable address, attribute address, shift. -/
theorem test_bg_addresses :
    (ntAddr 0x2C65#15, atAddr 0x2C65#15, atShift 0x2C65#15) = (0x2C65#14, 0x2FC1#14, 4) ∧
    (ntAddr 0x7FFF#15, atAddr 0x7FFF#15, atShift 0x7FFF#15) = (0x2FFF#14, 0x2FFF#14, 6) ∧
    (ntAddr 0x03DF#15, atAddr 0x03DF#15, atShift 0x03DF#15) = (0x23DF#14, 0x23FF#14, 6) ∧
    (ntAddr 0x0BBE#15, atAddr 0x0BBE#15, atShift 0x0BBE#15) = (0x2BBE#14, 0x2BFF#14, 2) := by decide

/-- R271 and R272, worked examples. -/
theorem test_ntf_atf :
    after .ntf { on with v := 0x2C65#15, mapper := mem [(0x2C65, 0x24#8)] } (fun s => (s.ntLatch, s.log)) =
      some (0x24#8, [.ntRead 0x2C65#14 0x24#8]) ∧
    after .atf { on with v := 0x2C65#15, mapper := mem [(0x2FC1, 0xE4#8)] } (·.atLatch) = some 2#2 ∧
    after .pntf { quiet with ntLatch := 0x24#8 } (fun s => (s.ntLatch, s.log)) = some (0x00#8, []) ∧
    after .patf { on with v := 0x2C65#15, mapper := mem [(0x2FC1, 0xE4#8)] } (·.atLatch) = some 2#2 := by decide

/-- BF6 (R274, R275). -/
theorem test_plf_phf :
    after .plf { on with bgPatternSel := true, ntLatch := 0x24#8, v := 0x5000#15, mapper := mem [(0x1245, 0x3C#8)] }
      (·.loLatch) = some 0x3C#8 ∧
    after .phf { on with bgPatternSel := true, ntLatch := 0x24#8, v := 0x5000#15, mapper := mem [(0x124D, 0x3D#8)] }
      (·.hiLatch) = some 0x3D#8 ∧
    after .pplf { on with ntLatch := 0xFF#8, v := 0x7000#15, mapper := mem [(0x0FF7, 0x11#8)] } (·.loLatch) = some 0x11#8 ∧
    after .pphf { on with ntLatch := 0xFF#8, v := 0x7000#15, mapper := mem [(0x0FFF, 0x12#8)] } (·.hiLatch) =
      some 0x12#8 := by decide

/-- R276, worked example. -/
theorem test_reload :
    after .reload { quiet with bgLo := 0x12F0#16, loLatch := 0x3C#8, bgAt := 0x0003#16, atLatch := 2#2 }
      (fun s => (s.bgLo, s.bgAt)) = some (0xF03C#16, 0x0302#16) ∧
    after .preload { quiet with bgHi := 0x12F0#16, hiLatch := 0x3C#8 } (·.bgHi) = some 0xF03C#16 := by decide

/-- R277 and R295, worked examples. -/
theorem test_dummy_fetches :
    after .idlef1 { on with v := 0x0002#15, mapper := mem [] } (·.log) = some [.ntRead 0x2002#14 0#8] ∧
    after .idlef2 { on with v := 0x0002#15, mapper := mem [] } (·.log) = some [.ntRead 0x2002#14 0#8] ∧
    after .sntf { on with v := 0x0C41#15, mapper := mem [] } (·.log) = some [.ntRead 0x2C41#14 0#8] ∧
    after .satf { on with v := 0x0C41#15, mapper := mem [] } (·.log) = some [.ntRead 0x2FC0#14 0#8] := by decide

/-! ### Sprite fetch (R290 to R298) -/

/-- An entry with this row, tile and attribute. -/
def entry (row : BitVec 4) (tile attr : Byte) : SpriteEntry :=
  { id := 0#7, row := row, tile := tile, attr := attr, x := 0#8, lo := 0#8, hi := 0#8 }

/-- SF1 to SF12. -/
theorem test_sprite_addresses :
    sprPatAddr false true (entry 1#4 0x07#8 0x41#8) false = 0x1071#14 ∧
    sprPatAddr false true (entry 1#4 0x07#8 0xC1#8) true = 0x107E#14 ∧
    sprPatAddr false false (entry 9#4 0x07#8 0x00#8) false = 0x0071#14 ∧
    sprPatAddr true false (entry 9#4 0x07#8 0x00#8) true = 0x1079#14 ∧
    sprPatAddr true false (entry 9#4 0x07#8 0x80#8) false = 0x1066#14 ∧
    sprPatAddr true true (entry 15#4 0xFE#8 0x80#8) true = 0x0FE8#14 ∧
    sprPatAddr true false (entry 15#4 0xFF#8 0x00#8) true = 0x1FFF#14 ∧
    sprPatAddr false true SpriteEntry.sentinel false = 0x1FF0#14 := by decide

/-- R296, R297 and SF13. -/
theorem test_splf_sphf :
    after (.splf 3#3) { on with mapper := mem [(0, 0x90#8)] } (fun s => ((s.spr[3]).lo, (s.spr[2]).lo)) =
      some (0x90#8, 0x00#8) ∧
    after (.sphf 3#3) { on with mapper := mem [(8, 0x91#8)] } (fun s => ((s.spr[3]).hi, (s.spr[3]).lo)) =
      some (0x91#8, 0x00#8) ∧
    after (.splf 0#3) { quiet with spr := Vector.replicate 8 { entry 0#4 0#8 0#8 with lo := 0xFF#8 } }
      (fun s => ((s.spr[0]).lo, s.log)) = some (0x00#8, []) := by decide

/-! ### Pixel composition (R310 to R319) -/

/-- Set A of R319, with Mask 0x1E. -/
def setA : State :=
  { quiet with
    ly := 50#9, x := 3#3, bgLo := 0x0820#16, bgHi := 0x0020#16, bgAt := 0x0201#16, bgEnable := true, sprEnable := true,
    spr := (Vector.replicate 8 SpriteEntry.sentinel).set 0
      { id := 0#7, row := 0#4, tile := 0#8, attr := 0x41#8, x := 0x50#8, lo := 0x90#8, hi := 0x00#8 },
    pal := [(0x00, 0x0F#8), (0x07, 0x30#8), (0x09, 0x2A#8), (0x15, 0x16#8), (0x1B, 0x27#8)] }

/-- The pixel composed and the flag after. -/
def pixelOf (s : State) (col : Byte) : Option (Pixel × Bool) :=
  after (.pixel col) s (fun s' => (Memory.read s'.fb (256 * s.ly.toNat + col.toNat), s'.spr0hit))

/-- PX1, PX2, PX3. -/
theorem test_pixel_set_a :
    pixelOf setA 0x51#8 = some (0x02A#9, false) ∧ pixelOf setA 0x54#8 = some (0x016#9, false) ∧
    pixelOf setA 0x57#8 = some (0x016#9, true) := by decide

/-- PX4, PX5, PX6, PX8, PX9, PX10. -/
theorem test_pixel_masks :
    pixelOf { setA with spr := setA.spr.set 0 { setA.spr[0] with attr := 0x61#8 } } 0x57#8 = some (0x030#9, true) ∧
    pixelOf { setA with sprEnable := false } 0x57#8 = some (0x030#9, false) ∧
    pixelOf { setA with bgEnable := false } 0x57#8 = some (0x016#9, false) ∧
    pixelOf { setA with grayscale := true } 0x57#8 = some (0x010#9, true) ∧
    pixelOf { setA with emphasis := 7#3 } 0x57#8 = some (0x1D6#9, true) ∧
    pixelOf { setA with emphasis := 7#3, bgEnable := false, sprEnable := false } 0x57#8 = some (0x1CF#9, false) := by decide

/-! ### The order of a dot, the gap and the reset event -/

/-- R345: RELOAD, INCX and INCY of dot 255 act in that order, after the pixel (SC30 ends a line this way). -/
theorem test_dot_255 :
    afterStep (posAt 0#9 255#9 { on with v := 0x001F#15, loLatch := 0x3C#8, bgLo := 0x12F0#16, mapper := mem [] })
      (fun s => (s.v, s.bgLo, s.lx)) = some (0x1400#15, 0xF03C#16, 256#9) := by decide

/-- Program 1, steps 9 and 10: the toggle is shared. -/
theorem test_shared_toggle :
    (nextOf (runSteps 2
      { quiet with t := 0x2108#15, v := 0x2108#15, x := 5#3, gap := [traceWrite 5 0xFF#8, traceWrite 6 0xAB#8] })).map
      (fun s => (s.t, s.v, s.x, s.w)) = some (0x21AB#15, 0x21AB#15, 7#3, false) := by decide

/-- R350: a listed gap opens as it is, past the list the CPU decides. -/
theorem test_gaps :
    afterStep { quiet with schedule := [[traceRead 2], [.reset]] } (fun s => (s.gap, s.schedule)) =
      some ([traceRead 2], [[.reset]]) ∧ afterStep quiet (·.gap) = some [] := by decide

/-- R350: from reset on a free CPU acts on the history and on the line, which LS241 has raised here. -/
theorem test_free_cpu :
    State.reset.gap = Config.gapActions [] false ∧
    afterStep (posAt 241#9 0#9 { quiet with cpu := .free, nmiEnable := true }) (·.gap) =
      some (Config.gapActions [.handOver, .irqSet true] true) := ⟨rfl, rfl⟩

/-- R370: reset in a gap. -/
theorem test_reset_event :
    afterStep { setA with gap := [.reset], irqLine := true, clock := 99 } (fun s => (s.clock, s.ly, s.irqLine, s.log)) =
      some (0, 0#9, false, [.irqSet false]) := by decide

/-! ### Witnesses: a state and operands that meet the hypotheses of each statement, clause by clause -/

/-- OamDataWriteStoresAndAdvances, at the last cell. -/
theorem witness_oam_data_write : Memory.wf { quiet with oam := [(255, 0x12#8)], oamAddr := 0xFF#8 }.oam = true := by decide

/-- DataWriteGoesThroughByAddress: each range at its last address, and the palette memory canonical. -/
theorem witness_data_write :
    (0x1FFF#15).toNat % 0x4000 < 0x2000 ∧
    (¬ (0x3EFF#15).toNat % 0x4000 < 0x2000 ∧ (0x3EFF#15).toNat % 0x4000 < 0x3F00) ∧
    (¬ (0x7F00#15).toNat % 0x4000 < 0x2000 ∧ ¬ (0x7F00#15).toNat % 0x4000 < 0x3F00) ∧
    Memory.wf { setA with v := 0x7F00#15 }.pal = true := by decide

/-- ScrollPairLaysOutT. -/
theorem witness_scroll_pair :
    let s := { quiet with gap := [traceWrite 5 0x7D#8, traceWrite 5 0x5E#8, .reset] }
    s.w = false ∧ s.gap = traceWrite 5 0x7D#8 :: traceWrite 5 0x5E#8 :: [.reset] := by decide

/-- AddressPairSetsV, with the toggle set before. -/
theorem witness_address_pair :
    { quiet with w := true, gap := traceAddr 0x3FFF#14 }.gap = traceAddr 0x3FFF#14 ++ [] := by decide

/-- PalettePokeReadsBack, at the first palette address. -/
theorem witness_palette_poke :
    let s := { setA with gap := tracePoke 0x3F00#14 0x21#8 ++ tracePeekPal 0x3F00#14 }
    Memory.wf s.pal = true ∧ 0x3F00 ≤ (0x3F00#14).toNat ∧ s.gap = tracePoke 0x3F00#14 0x21#8 ++ tracePeekPal 0x3F00#14 ++ [] := by
  decide

/-- RenderingOffLeavesVAndMapperAlone, on a dot that would fetch. -/
theorem witness_rendering_off :
    (posAt 0#9 2#9 quiet).gap = [] ∧ (posAt 0#9 2#9 quiet).rendering = false := by decide

/-- A line where sprite 0 matches with its last row. -/
def evalState (count : BitVec 4) : State := { on with ly := 55#9, oam := [(0, 0x30#8)], secCount := count }

/-- EvalAppendsOrOverflows: rendering disabled; no match; a match with the bank full; a match with one slot left. -/
theorem witness_eval :
    (quiet.secCount.toNat ≤ 8 ∧ quiet.rendering = false) ∧
    ((evalState 0#4).secCount.toNat ≤ 8 ∧
      ¬ (0 ≤ (55 : Int) - (Memory.read (evalState 0#4).oam (4 * (1#6).toNat)).toNat ∧
        (55 : Int) - (Memory.read (evalState 0#4).oam (4 * (1#6).toNat)).toNat < 8)) ∧
    (0 ≤ (55 : Int) - (Memory.read (evalState 8#4).oam (4 * (0#6).toNat)).toNat ∧
      (55 : Int) - (Memory.read (evalState 8#4).oam (4 * (0#6).toNat)).toNat < 8) ∧
    ((evalState 8#4).rendering = true ∧ (evalState 8#4).secCount.toNat = 8) ∧
    ((evalState 7#4).rendering = true ∧ (evalState 7#4).secCount.toNat < 8) := by decide

/-- EvaluationSelectsTheFirstEight: enabled, with nine sprites that match line 10, and one that does not. -/
theorem witness_evaluation :
    let s := { on with ly := 10#9, oam := (List.range 9).map (fun n => (4 * n, 0x05#8)) ++ [(36, 0x40#8)], spriteSize := true }
    s.rendering = true ∧ 9 ≤ s.matchingSprites.length := by decide

/-- SyncCheckOnlyCallsOut: a request; none; and no answer left. -/
theorem witness_syncchk :
    { quiet with syncRequests := [true] }.syncRequests.head? = some true ∧
    { quiet with syncRequests := [false] }.syncRequests.head? ≠ some true ∧
    quiet.syncRequests.head? ≠ some true := by decide

/-- AdvanceMovesThePosition: inside a line, at its last dot, at the last dot of the last line, and at the skipped dot. -/
theorem witness_advance :
    (endOfLine (posAt 261#9 339#9 on) = false ∧ endOfLine (posAt 0#9 339#9 { on with parity := true }) = false) ∧
    ((posAt 260#9 340#9 on).lx = 340#9 ∧ (posAt 260#9 340#9 on).ly ≠ 261#9) ∧
    ((posAt 261#9 340#9 on).lx = 340#9 ∧ (posAt 261#9 340#9 on).ly = 261#9) ∧
    (let s := posAt 261#9 339#9 { on with parity := true }
     s.lx = 339#9 ∧ s.ly = 261#9 ∧ s.parity = true ∧ s.bgEnable = true) := by decide

/-- OddRenderedFrameSkipsItsLastDot: both parities at dot 339, and dot 340. -/
theorem witness_odd_frame :
    (let s := posAt 261#9 339#9 { on with parity := true }
     s.gap = [] ∧ s.ly = 261#9 ∧ s.lx = 339#9 ∧ (s.parity && s.rendering) = true) ∧
    (let s := posAt 261#9 339#9 on
     s.gap = [] ∧ s.ly = 261#9 ∧ s.lx = 339#9 ∧ (s.parity && s.rendering) = false) ∧
    (let s := posAt 261#9 340#9 on
     s.gap = [] ∧ s.ly = 261#9 ∧ s.lx = 340#9) := by decide

/-- DotStepSelectsInOrder, at the last position of a frame. -/
theorem witness_dot_step : 261 ≤ 261 ∧ 340 ≤ 340 ∧ dotScheduleOf 261 340 = [.advance] := by decide

/-- StepRunsTheDecodedInstruction: a transaction, a reset, a dot step, a gap given as data, a free CPU past the list, and a
list of instructions. -/
theorem witness_step :
    { quiet with gap := [traceWrite 3 0x5A#8] }.gap = .transaction 0xB5A#12 :: [] ∧
    { quiet with gap := [.reset] }.gap = .reset :: [] ∧
    (posAt 240#9 5#9 quiet).gap = [] ∧
    runAll (decodeDot 240#9 5#9) (posAt 240#9 5#9 quiet) = .next { posAt 240#9 6#9 quiet with clock := 4 } ∧
    { quiet with schedule := [[traceRead 2]] }.schedule = [traceRead 2] :: [] ∧
    (State.reset.schedule = [] ∧ State.reset.cpu = .free) ∧
    exec .bankcopy quiet = .next quiet :=
  ⟨by decide, by decide, by decide, rfl, by decide, ⟨rfl, rfl⟩, rfl⟩

/-- PostRenderLinesOnlyAdvance: at dot 0 of the first line and of line 241, past it, and at the last dot of the last line. -/
theorem witness_post_render :
    ∀ p ∈ [(240#9, 0#9), (241#9, 0#9), (241#9, 1#9), (260#9, 340#9)],
      (posAt p.1 p.2 on).gap = [] ∧ 240 ≤ p.1.toNat ∧ p.1.toNat ≤ 260 ∧ p.2.toNat ≤ 340 := by
  simp [posAt, on, quiet, State.reset]

/-- FrameIsExactlyAsLongAsStated: an even frame and an odd rendered one. -/
theorem witness_frame :
    (on.CpuIdle ∧ on.ly = 0#9 ∧ on.lx = 0#9 ∧ (on.parity && on.rendering) = false) ∧
    (let s := { on with parity := true }
     s.CpuIdle ∧ s.ly = 0#9 ∧ s.lx = 0#9 ∧ (s.parity && s.rendering) = true) := by decide

/-- LowestOpaqueSlotWins: sprites disabled; clipped; every slot transparent; an opaque slot 0; and an opaque slot 7 behind
seven transparent ones. -/
theorem witness_lowest_slot :
    quiet.sprEnable = false ∧
    ((7#8).toNat < 8 ∧ { setA with sprEdgeClip := true }.sprEdgeClip = true) ∧
    (setA.sprEnable = true ∧ ¬ ((0x51#8).toNat < 8 ∧ setA.sprEdgeClip = true) ∧
      ∀ i : Fin 8, entryPatternOf setA.spr[i] (0x51#8).toNat = 0) ∧
    (entryPatternOf setA.spr[(0 : Fin 8)] (0x54#8).toNat ≠ 0 ∧
      ∀ j : Fin 8, j < 0 → entryPatternOf setA.spr[j] (0x54#8).toNat = 0) ∧
    (let spr := (Vector.replicate 8 SpriteEntry.sentinel).set 7 setA.spr[(0 : Fin 8)]
     entryPatternOf spr[(7 : Fin 8)] (0x54#8).toNat ≠ 0 ∧
      ∀ j : Fin 8, j < 7 → entryPatternOf spr[j] (0x54#8).toNat = 0) := by decide

/-- PixelWritesOneFrameBufferCell, over a pixel already there. -/
theorem witness_pixel : Memory.wf { setA with fb := [(256 * 50 + 0x57, 0x1FF#9)] }.fb = true := by decide

/-- DotStepKeepsTheCpuSide, AtMostOneMapperCallPerDot and LogOnlyGrows: a dot step that calls the mapper. -/
theorem witness_dot_next : (posAt 0#9 2#9 on).gap = [] ∧ ∃ s', step (posAt 0#9 2#9 on) = .next s' := ⟨rfl, _, rfl⟩

/-- TransactionKeepsTheRasterSide. -/
theorem witness_transaction_next :
    let s := { on with gap := [.transaction 0x700#12] }
    s.gap = .transaction 0x700#12 :: [] ∧ ∃ s', step s = .next s' := ⟨rfl, _, rfl⟩

/-- ResetEventYieldsTheResetState. -/
theorem witness_reset_event : { setA with gap := [.reset, traceRead 2] }.gap = .reset :: [traceRead 2] := by decide

/-- EveryStepKeepsTheStructure: a composed pixel on the last visible line, and a write to the palette. -/
theorem witness_structure :
    (posAt 239#9 255#9 setA).Inv ∧ (∃ s', step (posAt 239#9 255#9 setA) = .next s') ∧
    { setA with v := 0x3F00#15, gap := [traceWrite 7 0x21#8] }.Inv :=
  ⟨by decide, ⟨_, rfl⟩, by decide⟩

/-- VblankStaysInItsWindow: as the flag rises, while it stands, and as it falls. -/
theorem witness_vblank :
    (∀ s ∈ [posAt 241#9 0#9 quiet, posAt 260#9 340#9 { quiet with vblank := true },
        posAt 261#9 0#9 { quiet with vblank := true }],
      s.PositionInRange ∧ s.VblankInWindow) ∧
    ∃ s', step (posAt 261#9 0#9 { quiet with vblank := true }) = .next s' :=
  ⟨by decide, _, rfl⟩

/-- A bank with sprite 0 in slot 0, on a line where sprite 2 is next. -/
def bankState : State :=
  posAt 0#9 11#9 { on with
    sec := (Vector.replicate 8 SpriteEntry.sentinel).set 0 (entry 0#4 0#8 0#8), secCount := 1#4,
    oam := [(9, 0x07#8)], spriteSize := true }

/-- EveryStepKeepsTheSlotOrder: an EVAL after one sprite was found. -/
theorem witness_slot_order : bankState.BankOrdered ∧ ∃ s', step bankState = .next s' := ⟨by decide, _, rfl⟩

/-- ScanlineZeroNeverShowsASprite: the end of the pre-render line, and a pixel of scanline 0. -/
theorem witness_line_zero :
    (∀ s ∈ [posAt 261#9 340#9 { setA with sec := Vector.replicate 8 SpriteEntry.sentinel, spr := Vector.replicate 8 SpriteEntry.sentinel },
        posAt 0#9 255#9 { setA with spr := Vector.replicate 8 (entry 0#4 0#8 0#8) }],
      s.PositionInRange ∧ s.NoSpriteOnLineZero) ∧
    ∃ s', step (posAt 0#9 255#9 { setA with spr := Vector.replicate 8 (entry 0#4 0#8 0#8) }) = .next s' :=
  ⟨by decide, _, rfl⟩

/-- DecodeOfEncodeIsTheInstruction, its second clause, for both phases of port 5. -/
theorem witness_encode : encode (.w5a 0xFF#8) = .port 0xDFF#12 ∧ encode (.w5b 0xFF#8) = .port 0xDFF#12 := by decide

end Sys2Proof.Machine.Tests
end

section
/-! Sequencing (R7, R89, R231): what a gap's action does, and what a dot step does once its micro-operations have run. -/

namespace Sys2Proof.Machine

@[simp] theorem gapStep_transaction (word : PortWord) (rest : List GapAction) (s : State) :
    gapStep (.transaction word) rest s = exec (decodePort s.w word) { s with gap := rest } := rfl

@[simp] theorem gapStep_reset (rest : List GapAction) (s : State) :
    gapStep .reset rest s = .next (resetEvent { s with gap := rest }) := rfl

/-- The converse of `dotStep_inv`: micro-operations that run to a next state make a dot step that ends in it, the next gap
opened. -/
theorem dotStep_of_runAll {s m : State} (h : runAll (decodeDot s.ly s.lx) s = .next m) :
    dotStep s = .next (openGap m) := by
  simp only [dotStep, h]

/-- Settles O28: each clause is the model's own law of the branch it names, the step's (`step_gap`, `step_dot`), the next
gap's (`nextGap_listed`, `nextGap_free`) or the list's (`runAll_cons`). -/
theorem stepRunsTheDecodedInstruction : Obligations.StepRunsTheDecodedInstruction := by
  unfold Obligations.StepRunsTheDecodedInstruction
  refine ⟨fun s word rest hgap => ?transaction, fun s rest hgap => ?reset, fun s m hgap hrun => ?dot,
    fun _ _ _ => nextGap_listed, fun _ => nextGap_free, fun _ _ _ _ => runAll_cons⟩
  case transaction => rw [step_gap hgap, gapStep_transaction]
  case reset => rw [step_gap hgap, gapStep_reset]
  case dot => rw [step_dot hgap, dotStep_of_runAll hrun, openGap_eq]

end Sys2Proof.Machine
end

section
/-! What is zero after reset (R60), and that the state after reset meets every invariant. -/

namespace Sys2Proof

/-- A memory that lists nothing reads 0 everywhere. -/
@[simp] theorem Memory.read_nil {n : Nat} (k : Nat) : Memory.read ([] : Memory n) k = 0#n := rfl

namespace Machine

theorem reset_memories_read_zero (k : Nat) :
    Memory.read State.reset.pal k = 0#8 ∧ Memory.read State.reset.oam k = 0#8 ∧ Memory.read State.reset.fb k = 0#9 :=
  ⟨Memory.read_nil k, Memory.read_nil k, Memory.read_nil k⟩

theorem reset_sec_getElem (i : Fin 8) : State.reset.sec[i] = SpriteEntry.zero :=
  Vector.getElem_replicate i.isLt

theorem reset_spr_getElem (i : Fin 8) : State.reset.spr[i] = SpriteEntry.zero :=
  Vector.getElem_replicate i.isLt

/-- Settles O46: the registers by the definition of the reset state, the memories and the banks cell by cell. -/
theorem resetLeavesEverythingZero : Obligations.ResetLeavesEverythingZero := by
  unfold Obligations.ResetLeavesEverythingZero
  refine ⟨?registers, ?position, ?flags, ?control, ?mask, reset_memories_read_zero, ?pipeline,
    rfl, fun i => ⟨reset_sec_getElem i, reset_spr_getElem i⟩⟩
  case registers => exact ⟨rfl, rfl, rfl, rfl, rfl, rfl, rfl⟩
  case position => exact ⟨rfl, rfl, rfl, rfl⟩
  case flags => exact ⟨rfl, rfl, rfl, rfl⟩
  case control => exact ⟨rfl, rfl, rfl, rfl, rfl⟩
  case mask => exact ⟨rfl, rfl, rfl, rfl, rfl, rfl⟩
  case pipeline => exact ⟨rfl, rfl, rfl, rfl, rfl, rfl, rfl⟩

theorem reset_inv : State.reset.Inv := by decide

/-- After reset no vblank stands. -/
theorem reset_vblankInWindow : State.reset.VblankInWindow := fun h => absurd h Bool.false_ne_true

/-- After reset no slot is filled, and the first dot of the line is still to come. -/
theorem reset_bankOrdered : State.reset.BankOrdered :=
  ⟨Nat.zero_le 8, fun _ _ _ h => absurd h (Nat.not_lt_zero _), fun _ h => absurd h (Nat.not_lt_zero _),
    fun _ h => absurd h (Nat.lt_irrefl 0)⟩

/-- After reset the line is scanline 0, with no hit, and every slot of the output bank has blank planes. -/
theorem reset_noSpriteOnLineZero : State.reset.NoSpriteOnLineZero := by
  have hline : State.reset.ly ≠ 261#9 := by decide
  refine ⟨fun h => absurd h hline, fun h => absurd h hline, fun _ => rfl, fun _ _ i => ?blank⟩
  case blank =>
    rw [reset_spr_getElem]
    exact .inr ⟨rfl, rfl⟩

/-- Settles O48. -/
theorem resetMeetsTheInvariants : Obligations.ResetMeetsTheInvariants :=
  ⟨reset_inv, reset_vblankInWindow, reset_bankOrdered, reset_noSpriteOnLineZero⟩

end Machine

end Sys2Proof
end

section
/-! What a dot step selects (R117, R231): the advance last and nowhere else, a pixel only on a visible line; and that
nothing but the advance moves the raster position. -/

namespace Sys2Proof

/-- The row of ADVANCE, which every position selects. -/
def advanceRow : DotRow :=
  { classes := .vbp, line := none, mask := 0x000#9, pattern := 0x000#9, build := fun _ => .advance }

/-- The micro-operations of a position before its advance. -/
def dotFront (ly lx : Dot) : List Instr :=
  (dotTable.dropLast.filter (fun r => dotSelects r ly lx)).map (fun r => r.build lx)

theorem dotSelects_advanceRow (ly lx : Dot) : dotSelects advanceRow ly lx = true := by
  simp [dotSelects, advanceRow, classIn]

/-- Every dot step ends with its advance. -/
theorem decodeDot_eq_front_advance (ly lx : Dot) : decodeDot ly lx = dotFront ly lx ++ [.advance] := by
  have htable : dotTable = dotTable.dropLast ++ [advanceRow] := rfl
  have hlast : [advanceRow].filter (fun r => dotSelects r ly lx) = [advanceRow] := by
    simp [dotSelects_advanceRow]
  rw [decodeDot, htable, List.filter_append, hlast, List.map_append]
  rfl

/-- A micro-operation before the advance comes from a selected row. -/
theorem mem_dotFront {i : Instr} {ly lx : Dot} :
    i ∈ dotFront ly lx ↔ ∃ r ∈ dotTable.dropLast, dotSelects r ly lx = true ∧ r.build lx = i := by
  simp [dotFront, and_assoc]

theorem advance_not_mem_dotFront (ly lx : Dot) : .advance ∉ dotFront ly lx := by
  have hrows : ∀ r ∈ dotTable.dropLast, r.build lx ≠ .advance := by
    simp [dotTable, dotRowsLineStart, dotRowsTransfer, dotRowsFetch, dotRowsPicture]
  rw [mem_dotFront]
  rintro ⟨r, hr, -, hbuild⟩
  exact hrows r hr hbuild

theorem classIn_of_dotSelects {r : DotRow} {ly lx : Dot} (h : dotSelects r ly lx = true) :
    classIn r.classes (lineClass ly) = true := by
  rw [dotSelects, Bool.and_eq_true, Bool.and_eq_true] at h
  exact h.1.1

/-- Class V is lines 0 to 239 (R112). -/
theorem line_le_of_classIn_v {ly : Dot} (h : classIn .v (lineClass ly) = true) : ly.toNat ≤ 239 := by
  by_contra hly
  rw [lineClass, if_neg hly] at h
  split at h <;> cases h

/-- The only class of PIXEL's row is V (R117). -/
theorem line_le_of_pixel_mem_dotFront {col : BitVec 8} {ly lx : Dot} (h : .pixel col ∈ dotFront ly lx) :
    ly.toNat ≤ 239 := by
  have hrows : ∀ r ∈ dotTable.dropLast, r.build lx = .pixel col → r.classes = .v := by
    simp [dotTable, dotRowsLineStart, dotRowsTransfer, dotRowsFetch, dotRowsPicture]
  obtain ⟨r, hr, hsel, hbuild⟩ := mem_dotFront.mp h
  have hclass := classIn_of_dotSelects hsel
  rw [hrows r hr hbuild] at hclass
  exact line_le_of_classIn_v hclass

/-- A transaction is no micro-operation of the raster agent. -/
theorem decodePort_ne_pixel (w : Bool) (word : PortWord) (col : BitVec 8) : decodePort w word ≠ .pixel col := by
  unfold decodePort
  split
  · unfold decodeWrite
    split <;> cases w <;> simp
  · unfold decodeRead
    split <;> simp

namespace Machine

/-- A run of two lists one after the other, taken apart: the converse of `runAll_append`. -/
theorem runAll_append_inv {is js : List Instr} {s s' : State} (h : runAll (is ++ js) s = .next s') :
    ∃ m, runAll is s = .next m ∧ runAll js m = .next s' := by
  obtain ⟨m, hm⟩ := runAll_completes is s
  exact ⟨m, hm, runAll_append hm ▸ h⟩

/-- A run of a position's micro-operations: those before the advance, then the advance. -/
theorem runAll_decodeDot_inv {ly lx : Dot} {s s' : State} (h : runAll (decodeDot ly lx) s = .next s') :
    ∃ m, runAll (dotFront ly lx) s = .next m ∧ exec .advance m = .next s' := by
  rw [decodeDot_eq_front_advance] at h
  obtain ⟨m, hfront, hlast⟩ := runAll_append_inv h
  exact ⟨m, hfront, hlast⟩

end Machine

end Sys2Proof
end

section
/-! The structural invariant (R30, R36, R45 to R47, R51, R54): the items of the state it speaks of, the instructions that
write one of them, and that each keeps it. -/

namespace Sys2Proof.Machine

/-- The items of the state that `State.Inv` speaks of. -/
structure StructuralPart where
  ly : Dot
  lx : Dot
  vblank : Bool
  irqLine : Bool
  nmiEnable : Bool
  pal : Memory 8
  oam : Memory 8
  fb : Memory 9
  bgAt : BitVec 16
  secCount : BitVec 4

/-- The structural part of a state. -/
def State.structuralPart (s : State) : StructuralPart :=
  { ly := s.ly, lx := s.lx, vblank := s.vblank, irqLine := s.irqLine, nmiEnable := s.nmiEnable, pal := s.pal,
    oam := s.oam, fb := s.fb, bgAt := s.bgAt, secCount := s.secCount }

/-- The invariant depends on the structural part only. -/
theorem inv_of_structuralPart_eq {s s' : State} (h : s'.structuralPart = s.structuralPart) (hs : s.Inv) : s'.Inv := by
  simp only [State.structuralPart, StructuralPart.mk.injEq] at h
  obtain ⟨hly, hlx, hvblank, hirq, hnmi, hpal, hoam, hfb, hat, hcount⟩ := h
  simpa only [State.Inv, State.PositionInRange, State.IrqAgrees, State.MemoriesWf, State.CountInRange,
    State.AttributeClean, hly, hlx, hvblank, hirq, hnmi, hpal, hoam, hfb, hat, hcount] using hs

/-- The instructions that write an item of the structural part. -/
def writesStructure : Instr → Bool
  | .r2 | .w0 _ | .w4 _ | .w7 _ | .ls241 | .ls261 | .prefill | .pixel _ | .eval _ | .reload | .preload | .advance => true
  | _ => false

theorem fetch_structuralPart (a : VAddr) (s : State) : (fetch a s).2.structuralPart = s.structuralPart := by
  rw [fetch_state]
  rfl

theorem memRead_structuralPart (a : VAddr) (s : State) : (memRead a s).2.structuralPart = s.structuralPart := by
  rw [memRead_eq]
  rfl

theorem setVIfRendering_structuralPart (v : VReg) (s : State) :
    (setVIfRendering v s).structuralPart = s.structuralPart := by
  obtain ⟨-, h⟩ | ⟨-, h⟩ := setVIfRendering_cases v s
  · rw [h]
    rfl
  · rw [h]

/-- R77: of the structural part a routed write writes at most one cell of the palette. -/
theorem memWrite_structuralPart (a : VAddr) (d : Byte) (s : State) :
    (memWrite a d s).structuralPart = s.structuralPart ∨
    ∃ k < 32, (memWrite a d s).structuralPart = { s with pal := Memory.write s.pal k d }.structuralPart := by
  obtain ⟨-, h⟩ | ⟨-, -, h⟩ | ⟨-, h⟩ := memWrite_cases a d s
  · rw [h]
    exact .inl rfl
  · rw [h]
    exact .inl rfl
  · rw [h]
    exact .inr ⟨_, palKey_lt _ _, rfl⟩

/-- Every other instruction leaves the structural part alone. -/
theorem exec_structuralPart {i : Instr} {s s' : State} (hi : writesStructure i = false) (h : exec i s = .next s') :
    s'.structuralPart = s.structuralPart := by
  cases i
  case r2 | w0 | w4 | w7 | ls241 | ls261 | prefill | pixel | eval | reload | preload | advance => cases hi
  case ntf | atf | plf | phf | pntf | patf | pplf | pphf | sntf | satf | splf | sphf | idlef1 | idlef2 =>
    cases h
    exact fetch_structuralPart _ s
  case incx | pincx | incy | copyh | copyv =>
    cases h
    exact setVIfRendering_structuralPart _ s
  case r7 =>
    cases h
    exact memRead_structuralPart _ s
  case syncchk =>
    simp only [exec, execSyncchk] at h
    split at h <;> cases h <;> rfl
  case r0 | r1 | r3 | r4 | r5 | r6 | w1 | w2 | w3 | w5a | w5b | w6a | w6b | bankcopy =>
    cases h
    rfl

/-- Only the advance moves the raster position (R242). -/
theorem exec_position {i : Instr} {s s' : State} (hi : i ≠ .advance) (h : exec i s = .next s') :
    s'.ly = s.ly ∧ s'.lx = s.lx := by
  cases i
  case advance => exact absurd rfl hi
  case eval n =>
    obtain h' | ⟨-, h'⟩ | ⟨-, -, -, h'⟩ := execEval_cases n s <;> cases h'.symm.trans h <;> exact ⟨rfl, rfl⟩
  case w7 d =>
    cases h
    obtain h' | ⟨k, -, h'⟩ := memWrite_structuralPart (portAddr s.v) d (latchWrite d s) <;>
      exact ⟨congrArg StructuralPart.ly h', congrArg StructuralPart.lx h'⟩
  case r2 | w0 | w4 | ls241 | ls261 | prefill | pixel | reload | preload =>
    cases h
    exact ⟨rfl, rfl⟩
  all_goals
    have hpart := exec_structuralPart rfl h
    exact ⟨congrArg StructuralPart.ly hpart, congrArg StructuralPart.lx hpart⟩

/-! ### The instructions that write it -/

/-- The three ends of an ADVANCE: inside the line, on the next line, at the top of the next frame (R242 to R245). -/
theorem advance_cases {s s' : State} (h : exec .advance s = .next s') :
    (endOfLine s = false ∧ s' = { s with clock := s.clock + s.params.clocksPerDot, lx := s.lx + 1#9 }) ∨
    (endOfLine s = true ∧ s.ly + 1#9 ≠ 262#9 ∧
      s' = { s with clock := s.clock + s.params.clocksPerDot, lx := 0#9, ly := s.ly + 1#9 }) ∨
    (endOfLine s = true ∧ s.ly + 1#9 = 262#9 ∧
      s' = wrapFrame { s with clock := s.clock + s.params.clocksPerDot }) := by
  simp only [exec, execAdvance, nextLine] at h
  cases hend : endOfLine s with
  | false =>
    rw [hend] at h
    cases h
    exact .inl ⟨rfl, rfl⟩
  | true =>
    rw [hend, if_pos rfl] at h
    split at h
    · cases h
      exact .inr (.inr ⟨rfl, ‹_›, rfl⟩)
    · cases h
      exact .inr (.inl ⟨rfl, ‹_›, rfl⟩)

theorem lx_ne_of_not_endOfLine {s : State} (h : endOfLine s = false) : s.lx ≠ 340#9 := by
  intro hlx
  simp [endOfLine, hlx] at h

/-- R30: the advance keeps `ly` and `lx` in range. -/
theorem advance_positionInRange {s s' : State} (hs : s.PositionInRange) (h : exec .advance s = .next s') :
    s'.PositionInRange := by
  obtain ⟨hly, hlx⟩ := hs
  obtain ⟨hend, rfl⟩ | ⟨-, hlast, rfl⟩ | ⟨-, -, rfl⟩ := advance_cases h
  · have hne := lx_ne_of_not_endOfLine hend
    exact ⟨hly, by bv_omega⟩
  · exact ⟨by bv_omega, Nat.zero_le _⟩
  · exact ⟨Nat.zero_le _, Nat.zero_le _⟩

theorem advance_inv {s s' : State} (hs : s.Inv) (h : exec .advance s = .next s') : s'.Inv := by
  obtain ⟨hpos, hrest⟩ := hs
  refine ⟨advance_positionInRange hpos h, ?rest⟩
  obtain ⟨-, rfl⟩ | ⟨-, -, rfl⟩ | ⟨-, -, rfl⟩ := advance_cases h <;> exact hrest

/-- R213: an EVAL appends only while fewer than eight slots are filled. -/
theorem eval_countInRange {n : BitVec 6} {s s' : State} (hs : s.CountInRange) (h : exec (.eval n) s = .next s') :
    s'.CountInRange := by
  obtain h' | ⟨-, h'⟩ | ⟨hfree, -, -, h'⟩ := execEval_cases n s <;> cases h'.symm.trans h
  · exact hs
  · exact hs
  · show (s.secCount + 1#4).toNat ≤ 8
    bv_omega

theorem eval_inv {n : BitVec 6} {s s' : State} (hs : s.Inv) (h : exec (.eval n) s = .next s') : s'.Inv := by
  obtain ⟨hpos, hirq, hmem, hcount, hat⟩ := hs
  have hcount' := eval_countInRange hcount h
  obtain h' | ⟨-, h'⟩ | ⟨-, -, -, h'⟩ := execEval_cases n s <;> cases h'.symm.trans h <;>
    exact ⟨hpos, hirq, hmem, hcount', hat⟩

/-- R51: `bgAt` moves up by a byte whose bits 7:2 are zero, and takes a two-bit latch. -/
theorem reloadShift_attributeClean {s : State} (hs : s.AttributeClean) : (reloadShift s).AttributeClean := by
  have hlow : s.bgAt.extractLsb' 0 8 &&& 0xFC#8 = 0#8 := by
    have h := congrArg (BitVec.extractLsb' 0 8) hs
    rwa [BitVec.extractLsb'_and] at h
  show (s.bgAt.extractLsb' 0 8 ++ 0#6 ++ s.atLatch) &&& (0xFC#8 ++ 0x3F#6 ++ 0#2) = 0#16
  rw [BitVec.and_append, BitVec.and_append, hlow, BitVec.zero_and, BitVec.and_zero]
  rfl

theorem reloadShift_inv {s : State} (hs : s.Inv) : (reloadShift s).Inv := by
  obtain ⟨hpos, hirq, hmem, hcount, hat⟩ := hs
  exact ⟨hpos, hirq, hmem, hcount, reloadShift_attributeClean hat⟩

/-- The cells of the visible lines are the cells of the frame buffer (R47). -/
theorem fbKey_lt {ly : Dot} (h : ly.toNat ≤ 239) (col : Byte) : fbKey ly col < 61440 := by
  have := col.isLt
  rw [fbKey]
  omega

theorem pixel_inv {col : BitVec 8} {s s' : State} (hly : s.ly.toNat ≤ 239) (hs : s.Inv)
    (h : exec (.pixel col) s = .next s') : s'.Inv := by
  obtain ⟨hpos, hirq, ⟨hpal, hpal32, hoam, hoam256, hfb, hfbSize⟩, hcount, hat⟩ := hs
  cases h
  exact ⟨hpos, hirq, ⟨hpal, hpal32, hoam, hoam256, Memory.wf_write hfb _ _,
    Memory.within_write _ hfbSize (fbKey_lt hly col)⟩, hcount, hat⟩

theorem oamWrite_inv {d : Byte} {s s' : State} (hs : s.Inv) (h : exec (.w4 d) s = .next s') : s'.Inv := by
  obtain ⟨hpos, hirq, ⟨hpal, hpal32, hoam, hoam256, hfb⟩, hcount, hat⟩ := hs
  cases h
  exact ⟨hpos, hirq, ⟨hpal, hpal32, Memory.wf_write hoam _ _, Memory.within_write _ hoam256 s.oamAddr.isLt,
    hfb⟩, hcount, hat⟩

theorem palCellWrite_inv {k : Nat} {s : State} (hk : k < 32) (d : Byte) (hs : s.Inv) :
    { s with pal := Memory.write s.pal k d }.Inv := by
  obtain ⟨hpos, hirq, ⟨hpal, hpal32, hrest⟩, hcount, hat⟩ := hs
  exact ⟨hpos, hirq, ⟨Memory.wf_write hpal _ _, Memory.within_write _ hpal32 hk, hrest⟩, hcount, hat⟩

theorem dataWrite_inv {d : Byte} {s s' : State} (hs : s.Inv) (h : exec (.w7 d) s = .next s') : s'.Inv := by
  cases h
  obtain hpart | ⟨k, hk, hpart⟩ := memWrite_structuralPart (portAddr s.v) d (latchWrite d s)
  · exact inv_of_structuralPart_eq hpart hs
  · exact inv_of_structuralPart_eq (s := { s with pal := Memory.write s.pal k d }) hpart (palCellWrite_inv hk d hs)

/-- Where at most enable, flag and line change, only their agreement is at stake (R343). -/
theorem inv_of_irqAgrees {s s' : State} (hs : s.Inv) (hirq : s'.IrqAgrees)
    (h : s'.structuralPart =
      { s with vblank := s'.vblank, irqLine := s'.irqLine, nmiEnable := s'.nmiEnable }.structuralPart) : s'.Inv := by
  obtain ⟨hpos, -, hrest⟩ := hs
  exact inv_of_structuralPart_eq h ⟨hpos, hirq, hrest⟩

/-- Every instruction keeps the structural invariant, where a pixel is composed on a visible line. -/
theorem exec_inv {i : Instr} {s s' : State} (hpixel : ∀ col, i = .pixel col → s.ly.toNat ≤ 239) (hs : s.Inv)
    (h : exec i s = .next s') : s'.Inv := by
  cases i
  case advance => exact advance_inv hs h
  case eval n => exact eval_inv hs h
  case pixel col => exact pixel_inv (hpixel col rfl) hs h
  case w4 d => exact oamWrite_inv hs h
  case w7 d => exact dataWrite_inv hs h
  case reload | preload =>
    cases h
    exact reloadShift_inv hs
  case prefill =>
    obtain ⟨hpos, hirq, hmem, -, hat⟩ := hs
    cases h
    exact ⟨hpos, hirq, hmem, Nat.zero_le 8, hat⟩
  case w0 d =>
    cases h
    exact inv_of_irqAgrees hs rfl rfl
  case ls241 =>
    cases h
    exact inv_of_irqAgrees hs (Bool.and_true _).symm rfl
  case r2 | ls261 =>
    cases h
    exact inv_of_irqAgrees hs (Bool.and_false _).symm rfl
  all_goals exact inv_of_structuralPart_eq (exec_structuralPart rfl h) hs

/-! ### The steps -/

/-- The micro-operations of a position before its advance keep the invariant: none moves the line, so a pixel is composed
where it was selected. -/
theorem runAll_dotFront_inv {s m : State} (hs : s.Inv) (h : runAll (dotFront s.ly s.lx) s = .next m) : m.Inv := by
  have hkeeps : ∀ i ∈ dotFront s.ly s.lx, ∀ t t' : State, t.Inv ∧ t.ly = s.ly → exec i t = .next t' →
      t'.Inv ∧ t'.ly = s.ly := by
    rintro i hi t t' ⟨ht, hline⟩ hexec
    have hne : i ≠ .advance := fun hadv => advance_not_mem_dotFront s.ly s.lx (hadv ▸ hi)
    have hpixel : ∀ col, i = .pixel col → t.ly.toNat ≤ 239 := fun col hcol =>
      hline ▸ line_le_of_pixel_mem_dotFront (hcol ▸ hi)
    exact ⟨exec_inv hpixel ht hexec, (exec_position hne hexec).1.trans hline⟩
  exact (runAll_keeps hkeeps ⟨hs, rfl⟩ h).1

/-- The reset event leaves the structural part of the reset state (R370). -/
theorem resetEvent_inv (s : State) : (resetEvent s).Inv :=
  inv_of_structuralPart_eq (s := State.reset) rfl reset_inv

/-- Settles O49: a transaction composes no pixel, the reset event leaves the structural part of the reset state, and a dot
step runs its micro-operations on the line that selected them, then the advance. -/
theorem everyStepKeepsTheStructure : Obligations.EveryStepKeepsTheStructure := by
  unfold Obligations.EveryStepKeepsTheStructure
  intro s s' hs h
  obtain ⟨word, rest, -, hexec⟩ | ⟨rest, -, rfl⟩ | ⟨m, -, hrun, rfl⟩ := step_cases h
  · have hgap : { s with gap := rest }.Inv := inv_of_structuralPart_eq (s := s) rfl hs
    exact exec_inv (fun col hcol => absurd hcol (decodePort_ne_pixel s.w word col)) hgap hexec
  · exact resetEvent_inv _
  · obtain ⟨m', hfront, hadvance⟩ := runAll_decodeDot_inv hrun
    exact inv_of_structuralPart_eq (s := m) rfl (advance_inv (runAll_dotFront_inv hs hfront) hadvance)

end Sys2Proof.Machine
end

section
/-! Who writes what (R20 to R57, the reach table R82): a micro-operation of the raster agent leaves what only port
transactions write, and a transaction leaves what only the raster agent writes. -/

namespace Sys2Proof

/-- The rows of R113, the port transactions; the other instructions are those of R117. -/
def isTransaction : Instr → Bool
  | .r0 | .r1 | .r2 | .r3 | .r4 | .r5 | .r6 | .r7 | .w0 _ | .w1 _ | .w2 _ | .w3 _ | .w4 _ | .w5a _ | .w5b _ | .w6a _
  | .w6b _ | .w7 _ => true
  | _ => false

/-- A word of format PORT is a transaction (R113). -/
theorem isTransaction_decodePort (w : Bool) (word : PortWord) : isTransaction (decodePort w word) = true := by
  unfold decodePort
  split
  · unfold decodeWrite
    split <;> cases w <;> rfl
  · unfold decodeRead
    split <;> rfl

/-- A position selects no transaction (R117). -/
theorem isTransaction_of_mem_decodeDot {i : Instr} {ly lx : Dot} (h : i ∈ decodeDot ly lx) :
    isTransaction i = false := by
  have hrows : ∀ r ∈ dotTable, isTransaction (r.build lx) = false := by
    simp [dotTable, dotRowsLineStart, dotRowsTransfer, dotRowsFetch, dotRowsPicture, isTransaction]
  obtain ⟨r, hr, rfl⟩ := List.mem_map.mp h
  exact hrows r (List.mem_of_mem_filter hr)

namespace Machine

/-! ### What only port transactions write -/

/-- The state with everything outside `SameCpuSide` blanked, so that agreement there is one equation. -/
def State.cpuSide (s : State) : State :=
  { State.reset with
    t := s.t, x := s.x, w := s.w, busLatch := s.busLatch, readBuffer := s.readBuffer, oamAddr := s.oamAddr,
    nmiEnable := s.nmiEnable, spriteSize := s.spriteSize, bgPatternSel := s.bgPatternSel,
    sprPatternSel := s.sprPatternSel, vramInc32 := s.vramInc32, grayscale := s.grayscale, bgEdgeClip := s.bgEdgeClip,
    sprEdgeClip := s.sprEdgeClip, bgEnable := s.bgEnable, sprEnable := s.sprEnable, emphasis := s.emphasis,
    pal := s.pal, oam := s.oam, params := s.params, mapper := s.mapper, cpu := s.cpu }

theorem sameCpuSide_iff {s s' : State} : SameCpuSide s s' ↔ s'.cpuSide = s.cpuSide := by
  simp only [SameCpuSide, State.cpuSide, State.mk.injEq, true_and, and_true]

theorem fetch_cpuSide (a : VAddr) (s : State) : (fetch a s).2.cpuSide = s.cpuSide := by
  rw [fetch_state]
  rfl

theorem setVIfRendering_cpuSide (v : VReg) (s : State) : (setVIfRendering v s).cpuSide = s.cpuSide := by
  obtain ⟨-, h⟩ | ⟨-, h⟩ := setVIfRendering_cases v s <;> rw [h]
  rfl

/-- A micro-operation of the raster agent leaves what only port transactions write. -/
theorem exec_cpuSide {i : Instr} {s s' : State} (hi : isTransaction i = false) (h : exec i s = .next s') :
    s'.cpuSide = s.cpuSide := by
  cases i
  case r0 | r1 | r2 | r3 | r4 | r5 | r6 | r7 | w0 | w1 | w2 | w3 | w4 | w5a | w5b | w6a | w6b | w7 => cases hi
  case ntf | atf | plf | phf | pntf | patf | pplf | pphf | sntf | satf | splf | sphf | idlef1 | idlef2 =>
    cases h
    exact fetch_cpuSide _ s
  case incx | pincx | incy | copyh | copyv =>
    cases h
    exact setVIfRendering_cpuSide _ s
  case syncchk =>
    simp only [exec, execSyncchk] at h
    split at h <;> cases h <;> rfl
  case eval n =>
    obtain h' | ⟨-, h'⟩ | ⟨-, -, -, h'⟩ := execEval_cases n s <;> cases h'.symm.trans h <;> rfl
  case advance => obtain ⟨-, rfl⟩ | ⟨-, -, rfl⟩ | ⟨-, -, rfl⟩ := advance_cases h <;> rfl
  case ls241 | ls261 | prefill | pixel | reload | preload | bankcopy =>
    cases h
    rfl

/-- Settles O42: none of the micro-operations a position selects is a transaction, and opening the gap writes only the
model's own gap, schedule and log. -/
theorem dotStepKeepsTheCpuSide : Obligations.DotStepKeepsTheCpuSide := by
  unfold Obligations.DotStepKeepsTheCpuSide
  intro s s' hgap h
  rw [step_dot hgap] at h
  obtain ⟨m, hrun, rfl⟩ := dotStep_inv h
  have hm : m.cpuSide = s.cpuSide :=
    runAll_keeps (P := fun t => t.cpuSide = s.cpuSide)
      (fun _ hi _ _ ht hexec => (exec_cpuSide (isTransaction_of_mem_decodeDot hi) hexec).trans ht) rfl hrun
  exact sameCpuSide_iff.mpr hm

/-! ### What a port transaction never writes -/

/-- The state with everything a port transaction may write blanked: what `SameRasterSide` speaks of stays, and the gap and
the schedule. -/
def State.rasterSide (s : State) : State :=
  { State.reset with
    ly := s.ly, lx := s.lx, parity := s.parity, clock := s.clock, spr0hit := s.spr0hit, sprovf := s.sprovf, fb := s.fb,
    bgLo := s.bgLo, bgHi := s.bgHi, bgAt := s.bgAt, sec := s.sec, spr := s.spr, secCount := s.secCount,
    ntLatch := s.ntLatch, atLatch := s.atLatch, loLatch := s.loLatch, hiLatch := s.hiLatch, params := s.params,
    syncRequests := s.syncRequests, cpu := s.cpu, gap := s.gap, schedule := s.schedule }

theorem rasterSide_eq_iff {s s' : State} :
    s'.rasterSide = s.rasterSide ↔ SameRasterSide s s' ∧ s'.gap = s.gap ∧ s'.schedule = s.schedule := by
  simp only [SameRasterSide, State.rasterSide, State.mk.injEq, true_and, and_true]
  tauto

theorem memRead_rasterSide (a : VAddr) (s : State) : (memRead a s).2.rasterSide = s.rasterSide := by
  rw [memRead_eq]
  rfl

theorem memWrite_rasterSide (a : VAddr) (d : Byte) (s : State) : (memWrite a d s).rasterSide = s.rasterSide := by
  obtain ⟨-, h⟩ | ⟨-, -, h⟩ | ⟨-, h⟩ := memWrite_cases a d s <;> rw [h] <;> rfl

/-- A port transaction leaves what only the raster agent writes, and the gap and the schedule. -/
theorem exec_rasterSide {i : Instr} {s s' : State} (hi : isTransaction i = true) (h : exec i s = .next s') :
    s'.rasterSide = s.rasterSide := by
  cases i
  case r7 =>
    cases h
    exact memRead_rasterSide _ s
  case w7 d =>
    cases h
    exact memWrite_rasterSide _ d (latchWrite d s)
  case r0 | r1 | r2 | r3 | r4 | r5 | r6 | w0 | w1 | w2 | w3 | w4 | w5a | w5b | w6a | w6b =>
    cases h
    rfl
  all_goals cases hi

/-- Settles O43: the word is decoded to a transaction, which finds the rest of the gap in place and leaves it. -/
theorem transactionKeepsTheRasterSide : Obligations.TransactionKeepsTheRasterSide := by
  unfold Obligations.TransactionKeepsTheRasterSide
  intro s s' word rest hgap h
  rw [step_gap hgap, gapStep_transaction] at h
  exact rasterSide_eq_iff.mp (exec_rasterSide (isTransaction_decodePort s.w word) h)

end Machine

end Sys2Proof
end

section
/-! The pseudo-operations `ADDR`, `POKE` and `PEEKPAL` of a gap (R119, R120), and a palette cell written and read back
through port 7 (R78, R79). -/

namespace Sys2Proof.Machine

/-! ### One access of a trace -/

theorem step_traceRead {s : State} {p : Nat} {rest : List GapAction} (h : s.gap = traceRead p :: rest) :
    step s = exec (decodeRead (BitVec.ofNat 3 p)) { s with gap := rest } := by
  rw [step_gap h, traceRead, gapStep_transaction, decodePort_read]

theorem step_traceWrite {s : State} {p : Nat} {d : Byte} {rest : List GapAction} (h : s.gap = traceWrite p d :: rest) :
    step s = exec (decodeWrite s.w (BitVec.ofNat 3 p) d) { s with gap := rest } := by
  rw [step_gap h, traceWrite, gapStep_transaction, decodePort_write]

/-- `R2` (R142). -/
theorem step_traceRead_status {s : State} {rest : List GapAction} (h : s.gap = traceRead 2 :: rest) :
    step s = .next { s with
      vblank := false, irqLine := false, w := false, gap := rest,
      log := .portRead 2#3 (statusValue s) :: .irqSet false :: s.log } :=
  step_traceRead h

/-- `W6` in the first phase (R168). -/
theorem step_traceWrite_addressFirst {s : State} {d : Byte} {rest : List GapAction} (hw : s.w = false)
    (h : s.gap = traceWrite 6 d :: rest) :
    step s = .next { s with busLatch := d, t := tAfterAddressFirst s.t d, w := true, gap := rest } := by
  rw [step_traceWrite h, hw]
  rfl

/-- `W6` in the second phase (R169). -/
theorem step_traceWrite_addressSecond {s : State} {d : Byte} {rest : List GapAction} (hw : s.w = true)
    (h : s.gap = traceWrite 6 d :: rest) :
    step s = .next { s with
      busLatch := d, t := tAfterAddressSecond s.t d, v := tAfterAddressSecond s.t d, w := false, gap := rest } := by
  rw [step_traceWrite h, hw]
  rfl

/-! ### `ADDR a` -/

/-- The two writes of `ADDR a` lay out `a`, whatever `t` was. -/
theorem tAfterAddress_pair (t : VReg) (a : VAddr) :
    tAfterAddressSecond (tAfterAddressFirst t ((a >>> 8).setWidth 8)) (a.setWidth 8) = a.setWidth 15 := by
  apply BitVec.eq_of_toNat_eq
  have := a.isLt
  rw [tAfterAddressSecond_toNat, tAfterAddressFirst_toNat]
  simp only [BitVec.toNat_setWidth, BitVec.toNat_ushiftRight, Nat.shiftRight_eq_div_pow]
  omega

/-- The state `ADDR a` leads to, with `rest` left of the gap (R120). -/
def afterAddr (a : VAddr) (rest : List GapAction) (s : State) : State :=
  { s with
    v := a.setWidth 15, t := a.setWidth 15, w := false, busLatch := a.setWidth 8, vblank := false, irqLine := false,
    gap := rest, log := .portRead 2#3 (statusValue s) :: .irqSet false :: s.log }

theorem runSteps_traceAddr {s : State} {a : VAddr} {rest : List GapAction} (h : s.gap = traceAddr a ++ rest) :
    runSteps 3 s = .next (afterAddr a rest s) := by
  rw [runSteps_succ (step_traceRead_status h), runSteps_succ (step_traceWrite_addressFirst rfl rfl),
    runSteps_succ (step_traceWrite_addressSecond rfl rfl), runSteps_zero, tAfterAddress_pair]
  rfl

/-- After `ADDR a` the address of a port-7 access is `a` (R72). -/
theorem portAddr_afterAddr (a : VAddr) (rest : List GapAction) (s : State) : portAddr (afterAddr a rest s).v = a := by
  apply BitVec.eq_of_toNat_eq
  have := a.isLt
  rw [portAddr_toNat, afterAddr, BitVec.toNat_setWidth]
  omega

/-! ### Port 7 in the palette range -/

theorem memWrite_palette {a : VAddr} (ha : 0x3F00 ≤ a.toNat) (d : Byte) (s : State) :
    memWrite a d s = { s with pal := Memory.write s.pal (palKey s (a.extractLsb' 0 5)) d } := by
  obtain ⟨hlow, -⟩ | ⟨-, hmid, -⟩ | ⟨-, h⟩ := memWrite_cases a d s
  · omega
  · omega
  · exact h

/-- The state a port-7 write of `d` to the palette address `a` leads to, with `rest` left of the gap (R79, R170). -/
def afterPaletteWrite (a : VAddr) (d : Byte) (rest : List GapAction) (s : State) : State :=
  { s with
    v := vAfterAccess s.v s.vramInc32, busLatch := d, gap := rest,
    pal := Memory.write s.pal (palKey s (a.extractLsb' 0 5)) d }

theorem step_traceWrite_palette {s : State} {a : VAddr} {d : Byte} {rest : List GapAction} (hv : portAddr s.v = a)
    (ha : 0x3F00 ≤ a.toNat) (h : s.gap = traceWrite 7 d :: rest) : step s = .next (afterPaletteWrite a d rest s) := by
  subst hv
  rw [step_traceWrite h]
  show Host.Outcome.next (stepV (memWrite (portAddr s.v) d _)) = _
  rw [memWrite_palette ha]
  rfl

/-- A port-7 read in the palette range returns the cell at once (R78, R147). -/
theorem step_traceRead_palette {s : State} {a : VAddr} {rest : List GapAction} (hv : portAddr s.v = a)
    (ha : 0x3F00 ≤ a.toNat) (h : s.gap = traceRead 7 :: rest) :
    ∃ s', step s = .next s' ∧
      s'.log.head? = some (.portRead 7#3 (palRead (a.extractLsb' 0 5) s)) ∧ s'.gap = rest := by
  subst hv
  have hvalue : dataReadValue { s with gap := rest } = palRead ((portAddr s.v).extractLsb' 0 5) s :=
    if_neg (Nat.not_lt.mpr ha)
  refine ⟨_, step_traceRead h, ?value, ?gap⟩
  case value => exact congrArg (fun b => some (Event.portRead 7#3 b)) hvalue
  case gap =>
    show (memRead (portAddr s.v) { s with gap := rest }).2.gap = rest
    rw [memRead_eq]

/-- A palette write leaves the fold. -/
theorem palKey_afterPaletteWrite (a : VAddr) (d : Byte) (rest : List GapAction) (s : State) (i : BitVec 5) :
    palKey (afterPaletteWrite a d rest s) i = palKey s i := rfl

/-- A palette cell just written reads as the byte written, under the grayscale mask, whatever the fold (R78, R79). -/
theorem palRead_afterPaletteWrite {s : State} (hwf : Memory.wf s.pal = true) (a : VAddr) (d : Byte)
    (rest : List GapAction) :
    palRead (a.extractLsb' 0 5) (afterPaletteWrite a d rest s) = if s.grayscale then d &&& 0x30#8 else d := by
  have hcell : Memory.read (afterPaletteWrite a d rest s).pal (palKey s (a.extractLsb' 0 5)) = d := by
    rw [afterPaletteWrite, Memory.read_write hwf, if_pos rfl]
  rw [palRead, palKey_afterPaletteWrite, hcell]
  rfl

/-- `POKE a, d` in the palette range. -/
theorem runSteps_tracePoke_palette {s : State} {a : VAddr} {d : Byte} {rest : List GapAction} (ha : 0x3F00 ≤ a.toNat)
    (h : s.gap = tracePoke a d ++ rest) :
    runSteps 4 s = .next (afterPaletteWrite a d rest (afterAddr a (traceWrite 7 d :: rest) s)) := by
  rw [tracePoke, List.append_assoc] at h
  rw [runSteps_add (m := 3) (n := 1) (runSteps_traceAddr h), List.singleton_append,
    runSteps_succ (step_traceWrite_palette (portAddr_afterAddr _ _ _) ha rfl), runSteps_zero]

/-- `PEEKPAL a` in the palette range: the cell of the state before it, which `ADDR` does not touch. -/
theorem runSteps_tracePeekPal {s : State} {a : VAddr} {rest : List GapAction} (ha : 0x3F00 ≤ a.toNat)
    (h : s.gap = tracePeekPal a ++ rest) :
    ∃ s', runSteps 4 s = .next s' ∧
      s'.log.head? = some (.portRead 7#3 (palRead (a.extractLsb' 0 5) s)) ∧ s'.gap = rest := by
  rw [tracePeekPal, List.append_assoc] at h
  obtain ⟨s', hstep, hlog, hgap⟩ :=
    step_traceRead_palette (portAddr_afterAddr a (traceRead 7 :: rest) s) ha rfl
  refine ⟨s', ?run, hlog, hgap⟩
  rw [runSteps_add (m := 3) (n := 1) (runSteps_traceAddr h), List.singleton_append, runSteps_succ hstep, runSteps_zero]

/-- Settles O15: `POKE` writes the cell of `a`, `PEEKPAL` reads that cell, and the fold, which no transaction changes,
sends both to the same place. -/
theorem palettePokeReadsBack : Obligations.PalettePokeReadsBack := by
  unfold Obligations.PalettePokeReadsBack
  intro s a d rest hwf ha hgap
  rw [List.append_assoc] at hgap
  have hpoke := runSteps_tracePoke_palette ha hgap
  have hcell := palRead_afterPaletteWrite
    (s := afterAddr a (traceWrite 7 d :: (tracePeekPal a ++ rest)) s) hwf a d (tracePeekPal a ++ rest)
  obtain ⟨s', hpeek, hlog, hrest⟩ := runSteps_tracePeekPal ha (rest := rest)
    (s := afterPaletteWrite a d (tracePeekPal a ++ rest) (afterAddr a (traceWrite 7 d :: (tracePeekPal a ++ rest)) s)) rfl
  rw [hcell] at hlog
  exact ⟨s', (runSteps_add (m := 4) (n := 4) hpoke).trans hpeek, hlog, hrest⟩

end Sys2Proof.Machine
end

section
/-! Encoding and decoding (R113, R115, R117): a transaction word is laid out from its fields and decodes to what it was laid
out from; a micro-operation is selected at the position its row gives. -/

namespace Sys2Proof

open Sys2Proof.Machine

/-! ### Format PORT -/

theorem encode_decodeRead (port : BitVec 3) : encode (decodeRead port) = .port (portWord false port.toNat 0#8) := by
  revert port
  decide

/-- The phase of a write is in the instruction, not in its word (R115). -/
theorem encode_decodeWrite (w : Bool) (port : BitVec 3) (d : Byte) :
    encode (decodeWrite w port d) = .port (portWord true port.toNat d) := by
  match port with
  | 0#3 | 1#3 | 2#3 | 3#3 | 4#3 | 7#3 => rfl
  | 5#3 | 6#3 => cases w <;> rfl

/-- What a word encodes is a read or a write of a port, a write in the phase of its own row (R113). -/
theorem encode_port_cases {i : Instr} {word : PortWord} (h : encode i = .port word) :
    (∃ port, i = decodeRead port) ∨ ∃ port d, i = decodeWrite (phaseOf i) port d := by
  cases i with
  | r0 => exact .inl ⟨0#3, rfl⟩
  | r1 => exact .inl ⟨1#3, rfl⟩
  | r2 => exact .inl ⟨2#3, rfl⟩
  | r3 => exact .inl ⟨3#3, rfl⟩
  | r4 => exact .inl ⟨4#3, rfl⟩
  | r5 => exact .inl ⟨5#3, rfl⟩
  | r6 => exact .inl ⟨6#3, rfl⟩
  | r7 => exact .inl ⟨7#3, rfl⟩
  | w0 d => exact .inr ⟨0#3, d, rfl⟩
  | w1 d => exact .inr ⟨1#3, d, rfl⟩
  | w2 d => exact .inr ⟨2#3, d, rfl⟩
  | w3 d => exact .inr ⟨3#3, d, rfl⟩
  | w4 d => exact .inr ⟨4#3, d, rfl⟩
  | w5a d | w5b d => exact .inr ⟨5#3, d, rfl⟩
  | w6a d | w6b d => exact .inr ⟨6#3, d, rfl⟩
  | w7 d => exact .inr ⟨7#3, d, rfl⟩
  | _ => cases h

/-- The word of a transaction decodes to it in the phase of its row (R113, R115). -/
theorem decodePort_of_encode {i : Instr} {word : PortWord} (h : encode i = .port word) :
    decodePort (phaseOf i) word = i := by
  obtain ⟨port, hread⟩ | ⟨port, d, hwrite⟩ := encode_port_cases h
  · rw [hread, encode_decodeRead] at h
    cases h
    rw [decodePort_read, BitVec.ofNat_toNat, BitVec.setWidth_eq, ← hread]
  · rw [hwrite, encode_decodeWrite] at h
    cases h
    rw [decodePort_write, BitVec.ofNat_toNat, BitVec.setWidth_eq, ← hwrite]

/-- A word is laid out from its own fields (R110). -/
theorem portWord_fields (word : PortWord) :
    portWord (PortWord.isWrite word) (PortWord.portField word).toNat (PortWord.dataField word) = word := by
  apply BitVec.eq_of_toNat_eq
  have := word.isLt
  rw [portWord_toNat, isWrite_eq, PortWord.portField, PortWord.dataField, extract_toNat, extract_toNat]
  by_cases h : 2048 ≤ word.toNat <;> simp [h] <;> omega

/-- The mask of a read's row clears the data field (R113). -/
theorem portWord_and_mask (write : Bool) (address : Nat) (d : Byte) :
    portWord write address d &&& 0xF00#12 = portWord write address 0#8 := by
  have hmask : (0xF00#12) = (BitVec.allOnes 4 ++ 0#8 : BitVec (4 + 8)) := rfl
  rw [portWord, hmask, BitVec.and_append, BitVec.and_allOnes, BitVec.and_zero, portWord]

theorem encode_decodePort (w : Bool) (word : PortWord) :
    encode (decodePort w word) = .port (if PortWord.isWrite word then word else word &&& 0xF00#12) := by
  rw [decodePort]
  by_cases hwrite : PortWord.isWrite word = true
  · rw [if_pos hwrite, if_pos hwrite, encode_decodeWrite, ← hwrite, portWord_fields]
  · rw [if_neg hwrite, if_neg hwrite, encode_decodeRead]
    have hfields := portWord_fields word
    rw [Bool.eq_false_of_not_eq_true hwrite] at hfields
    rw [← portWord_and_mask _ _ (PortWord.dataField word), hfields]

/-! ### Format DOT -/

/-- A position selects the micro-operations of the rows it matches (R112, R117). -/
theorem mem_decodeDot {i : Instr} {ly lx : Dot} :
    i ∈ decodeDot ly lx ↔ ∃ r ∈ dotTable, dotSelects r ly lx = true ∧ r.build lx = i := by
  simp [decodeDot, and_assoc]

/-- On line 0, of class V, a row without a line condition is selected by its match alone. -/
theorem build_mem_decodeDot {r : DotRow} {lx : Dot} (hr : r ∈ dotTable) (hclass : classIn r.classes .visible = true)
    (hline : r.line = none) (hmatch : lx.toNat &&& r.mask.toNat = r.pattern.toNat) :
    r.build lx ∈ decodeDot 0#9 lx := by
  have hlx : lx &&& r.mask = r.pattern := BitVec.eq_of_toNat_eq ((BitVec.toNat_and lx r.mask).trans hmatch)
  have hzero : lineClass 0#9 = .visible := rfl
  refine mem_decodeDot.mpr ⟨r, hr, ?_, rfl⟩
  simp [dotSelects, hzero, hclass, hline, hlx]

/-- The row of PIXEL (R117). -/
def pixelRow : DotRow :=
  { classes := .v, line := none, mask := 0x100#9, pattern := 0x000#9, build := fun lx => .pixel (lx.extractLsb' 0 8) }

/-- The row of EVAL (R117). -/
def evalRow : DotRow :=
  { classes := .vp, line := none, mask := 0x103#9, pattern := 0x003#9, build := fun lx => .eval (lx.extractLsb' 2 6) }

/-- The row of SPLF (R117). -/
def splfRow : DotRow :=
  { classes := .vp, line := none, mask := 0x1C7#9, pattern := 0x104#9, build := fun lx => .splf (lx.extractLsb' 3 3) }

/-- The row of SPHF (R117). -/
def sphfRow : DotRow :=
  { classes := .vp, line := none, mask := 0x1C7#9, pattern := 0x106#9, build := fun lx => .sphf (lx.extractLsb' 3 3) }

theorem pixelRow_mem_dotTable : pixelRow ∈ dotTable := by
  simp [dotTable, dotRowsPicture, pixelRow]

theorem evalRow_mem_dotTable : evalRow ∈ dotTable := by
  simp [dotTable, dotRowsPicture, evalRow]

theorem splfRow_mem_dotTable : splfRow ∈ dotTable := by
  simp [dotTable, dotRowsFetch, splfRow]

theorem sphfRow_mem_dotTable : sphfRow ∈ dotTable := by
  simp [dotTable, dotRowsFetch, sphfRow]

/-- The middle one of three fields of a word. -/
theorem extract_middle_append {k m n : Nat} (a : BitVec k) (b : BitVec m) (c : BitVec n) :
    (a ++ b ++ c).extractLsb' n m = b := by
  rw [BitVec.extractLsb'_append_eq_of_le (Nat.le_refl n), Nat.sub_self, BitVec.extractLsb'_append_eq_right]

theorem pixel_mem_decodeDot (col : BitVec 8) : .pixel col ∈ decodeDot 0#9 (0#1 ++ col) := by
  have hbuild : pixelRow.build (0#1 ++ col) = .pixel col := congrArg Instr.pixel BitVec.extractLsb'_append_eq_right
  have hsel := build_mem_decodeDot pixelRow_mem_dotTable rfl rfl (Laws.RowMatches.pixel col)
  rwa [hbuild] at hsel

theorem eval_mem_decodeDot (n : BitVec 6) : .eval n ∈ decodeDot 0#9 (0#1 ++ n ++ 3#2) := by
  have hbuild : evalRow.build (0#1 ++ n ++ 3#2) = .eval n := congrArg Instr.eval (extract_middle_append _ n _)
  have hsel := build_mem_decodeDot evalRow_mem_dotTable rfl rfl (Laws.RowMatches.eval n)
  rwa [hbuild] at hsel

theorem splf_mem_decodeDot (slot : BitVec 3) : .splf slot ∈ decodeDot 0#9 (4#3 ++ slot ++ 4#3) := by
  have hbuild : splfRow.build (4#3 ++ slot ++ 4#3) = .splf slot := congrArg Instr.splf (extract_middle_append _ slot _)
  have hsel := build_mem_decodeDot splfRow_mem_dotTable rfl rfl (Laws.RowMatches.splf slot)
  rwa [hbuild] at hsel

theorem sphf_mem_decodeDot (slot : BitVec 3) : .sphf slot ∈ decodeDot 0#9 (4#3 ++ slot ++ 6#3) := by
  have hbuild : sphfRow.build (4#3 ++ slot ++ 6#3) = .sphf slot := congrArg Instr.sphf (extract_middle_append _ slot _)
  have hsel := build_mem_decodeDot sphfRow_mem_dotTable rfl rfl (Laws.RowMatches.sphf slot)
  rwa [hbuild] at hsel

/-- A dot of line 0 up to 340 exists (R30). -/
theorem wellFormed_lineZero {lx : Dot} (h : lx.toNat ≤ 340) : (Selector.dot 0#9 lx).wellFormed = true := by
  simpa [Selector.wellFormed, lineInRange, dotInRange] using h

/-- The value of three fields laid side by side. -/
theorem middle_append_toNat {k m n : Nat} (a : BitVec k) (b : BitVec m) (c : BitVec n) :
    (a ++ b ++ c).toNat = 2 ^ n * (2 ^ m * a.toNat + b.toNat) + c.toNat := by
  rw [append_toNat, append_toNat]

/-! ### Both formats -/

theorem mem_decode_encode_of_port {i : Instr} {word : PortWord} (h : encode i = .port word) :
    i ∈ decode (phaseOf i) (encode i) := by
  rw [h, decode, decodePort_of_encode h]
  exact List.mem_singleton_self i

/-- Every instruction is selected by its own encoding: a transaction by its word, a micro-operation with an operand by the
position that carries the operand, any other by one fixed position. -/
theorem mem_decode_encode (i : Instr) : i ∈ decode (phaseOf i) (encode i) := by
  cases i with
  | r0 | r1 | r2 | r3 | r4 | r5 | r6 | r7 | w0 | w1 | w2 | w3 | w4 | w5a | w5b | w6a | w6b | w7 =>
    exact mem_decode_encode_of_port rfl
  | pixel col => exact pixel_mem_decodeDot col
  | eval n => exact eval_mem_decodeDot n
  | splf slot => exact splf_mem_decodeDot slot
  | sphf slot => exact sphf_mem_decodeDot slot
  | _ => decide

/-- The fixed fields and the widest operand stay below dot 341: PIXEL ends at dot 255, EVAL at 255, SPLF at 316, SPHF at
318. -/
theorem wellFormed_encode (i : Instr) : (encode i).wellFormed = true := by
  cases i with
  | pixel col => exact wellFormed_lineZero ((append_toNat 0#1 col).trans_le (by simp; omega))
  | eval n => exact wellFormed_lineZero ((middle_append_toNat 0#1 n 3#2).trans_le (by simp; omega))
  | splf slot => exact wellFormed_lineZero ((middle_append_toNat 4#3 slot 4#3).trans_le (by simp; omega))
  | sphf slot => exact wellFormed_lineZero ((middle_append_toNat 4#3 slot 6#3).trans_le (by simp; omega))
  | _ => rfl

/-- Settles O53: both formats for the selection; for the words, that a transaction's word is laid out from its fields. -/
theorem decodeOfEncodeIsTheInstruction : Obligations.DecodeOfEncodeIsTheInstruction :=
  ⟨fun i => ⟨mem_decode_encode i, wellFormed_encode i⟩, fun _ _ => decodePort_of_encode, encode_decodePort⟩

/-! ### Words and positions of the tables -/

/-- Settles O54: each word is the layout of its access, which `decodePort_read` or `decodePort_write` decodes; a position is
evaluated over the rows of the table. -/
theorem wordsOfTheTableDecode : Obligations.WordsOfTheTableDecode :=
  ⟨decodePort_read false 2 0x00#8, decodePort_read true 7 0xFF#8, decodePort_write false 0 0x82#8,
    decodePort_write false 5 0x7D#8, decodePort_write true 5 0x5E#8,
    decodePort_write false 6 0x3F#8, decodePort_write true 6 0x08#8,
    by decide, by decide, by decide⟩

end Sys2Proof
end

section
/-! The pseudo-operation `ADDR` as a statement of its own (R120). -/

namespace Sys2Proof.Machine

/-- Settles O14: the three steps lead to `afterAddr`, which holds `a` in both registers. -/
theorem addressPairSetsV : Obligations.AddressPairSetsV := by
  unfold Obligations.AddressPairSetsV
  intro s a rest hgap
  have ha : (a.setWidth 15).toNat = a.toNat := BitVec.toNat_setWidth_of_le (by decide)
  exact ⟨afterAddr a rest s, runSteps_traceAddr hgap, ha, ha, rfl, rfl, rfl, rfl⟩

end Sys2Proof.Machine
end

section
/-! The port reads (spec/40_port_reads.md): the byte each read returns, in numbers, and its next state. -/

namespace Sys2Proof.Machine

/-! ### The latch and the status -/

theorem next_readLatch (port : BitVec 3) (s : State) :
    (.next (readLatch port s) : Result) = .next { s with log := .portRead port s.busLatch :: s.log } := rfl

/-- Settles O1: each of the five reads is `readLatch` of its port. -/
theorem latchReadsReturnTheStaleLatch : Obligations.LatchReadsReturnTheStaleLatch := by
  unfold Obligations.LatchReadsReturnTheStaleLatch
  intro s
  exact ⟨next_readLatch 0#3 s, next_readLatch 1#3 s, next_readLatch 3#3 s, next_readLatch 5#3 s, next_readLatch 6#3 s⟩

/-- R43 in numbers. -/
theorem statusByte_toNat (vblank spr0hit sprovf : Bool) (latch : Byte) :
    (statusByte vblank spr0hit sprovf latch).toNat =
      128 * vblank.toNat + 64 * spr0hit.toNat + 32 * sprovf.toNat + latch.toNat % 32 := by
  simp only [statusByte, append_toNat, extract_toNat, BitVec.toNat_ofBool]
  omega

theorem exec_r2 (s : State) :
    exec .r2 s = .next { s with
      vblank := false, irqLine := false, w := false,
      log := .portRead 2#3 (statusValue s) :: .irqSet false :: s.log } := rfl

/-- Settles O2: the byte is `statusValue` of the state before the clear. -/
theorem statusReadReturnsFlagsAndClears : Obligations.StatusReadReturnsFlagsAndClears := by
  unfold Obligations.StatusReadReturnsFlagsAndClears
  intro s
  exact ⟨statusValue s, statusByte_toNat _ _ _ _, exec_r2 s⟩

/-! ### OAM data -/

/-- The low two bits of a byte are compared with a 2-bit selector (R144) as numbers. -/
theorem lowTwoBits_eq_iff (b : Byte) (sel : BitVec 2) : b.extractLsb' 0 2 = sel ↔ b.toNat % 4 = sel.toNat := by
  rw [← BitVec.toNat_inj, extract_toNat]
  omega

theorem oamDataValue_eq (s : State) :
    oamDataValue s =
      if s.oamAddr.toNat % 4 = s.params.oamDataMaskSel.toNat then
        Memory.read s.oam s.oamAddr.toNat &&& s.params.oamDataMask
      else Memory.read s.oam s.oamAddr.toNat := by
  simp only [oamDataValue, lowTwoBits_eq_iff]

theorem exec_r4 (s : State) : exec .r4 s = .next { s with log := .portRead 4#3 (oamDataValue s) :: s.log } := rfl

/-- Settles O3, by the byte `oamDataValue` in numbers. -/
theorem oamDataReadIsMasked : Obligations.OamDataReadIsMasked := by
  unfold Obligations.OamDataReadIsMasked
  intro s
  rw [exec_r4, oamDataValue_eq]

/-! ### Data -/

/-- R72 as a word. -/
theorem portAddr_eq_ofNat (v : VReg) : portAddr v = BitVec.ofNat 14 (v.toNat % 0x4000) := by
  rw [← portAddr_toNat, BitVec.ofNat_toNat, BitVec.setWidth_eq]

/-- The palette index of an address is the address modulo 32 (R78). -/
theorem paletteIndex_eq_ofNat (a : VAddr) : a.extractLsb' 0 5 = BitVec.ofNat 5 (a.toNat % 32) := by
  apply BitVec.eq_of_toNat_eq
  rw [extract_toNat, BitVec.toNat_ofNat]
  omega

/-- The increment of `v` is of all 15 bits. -/
theorem vAfterAccess_eq_ofNat (v : VReg) (inc32 : Bool) :
    vAfterAccess v inc32 = BitVec.ofNat 15 (v.toNat + if inc32 then 32 else 1) := by
  apply BitVec.eq_of_toNat_eq
  rw [vAfterAccess_toNat, BitVec.toNat_ofNat]

theorem palRead_eq_paletteColourOf (i : BitVec 5) (s : State) : palRead i s = paletteColourOf s i := rfl

theorem dataReadValue_eq (s : State) :
    dataReadValue s =
      if s.v.toNat % 0x4000 < 0x3F00 then s.readBuffer
      else paletteColourOf s (BitVec.ofNat 5 (s.v.toNat % 0x4000 % 32)) := by
  rw [dataReadValue, palRead_eq_paletteColourOf, paletteIndex_eq_ofNat, portAddr_toNat]

/-- The call of an R7 refill, routed by `v` as a number (R76). -/
theorem readEvent_portAddr (s : State) :
    readEvent (portAddr s.v) s =
      if s.v.toNat % 0x4000 < 0x2000 then .patRead (portAddr s.v) (mapperReply s (portAddr s.v))
      else .ntRead (portAddr s.v) (mapperReply s (portAddr s.v)) := by
  rw [readEvent, portAddr_toNat]

/-- R7: the byte returned is of the state before the refill, and the refill is one routed read. -/
theorem exec_r7 (s : State) :
    exec .r7 s = .next { s with
      readBuffer := mapperReply s (portAddr s.v), v := vAfterAccess s.v s.vramInc32,
      log := .portRead 7#3 (dataReadValue s) :: readEvent (portAddr s.v) s :: s.log } := by
  rw [exec, execR7, refill, memRead_eq]
  rfl

/-- Settles O4: `exec_r7`, with the address, the routing, the byte and the increment of `v` in numbers. -/
theorem dataReadIsBufferedBelowThePalette : Obligations.DataReadIsBufferedBelowThePalette := by
  unfold Obligations.DataReadIsBufferedBelowThePalette
  intro s
  rw [exec_r7, readEvent_portAddr, dataReadValue_eq, vAfterAccess_eq_ofNat, portAddr_eq_ofNat]

end Sys2Proof.Machine
end

section
/-! The port writes (spec/41_port_writes.md): the next state of each write, its fields in numbers and `t` in the mask form
of its rule, and the scroll pair of a gap (R381). -/

namespace Sys2Proof.Machine

/-! ### Fields of the data byte as numbers (R114) -/

/-- The fine X of a scroll write. -/
theorem lowThreeBits_toNat (d : Byte) : (d.extractLsb' 0 3).toNat = d.toNat % 8 := by
  rw [extract_toNat]
  omega

theorem lowThreeBits_eq_ofNat (d : Byte) : d.extractLsb' 0 3 = BitVec.ofNat 3 (d.toNat % 8) := by
  apply BitVec.eq_of_toNat_eq
  rw [lowThreeBits_toNat, BitVec.toNat_ofNat]
  omega

/-- The emphasis of a mask write. -/
theorem highThreeBits_eq_ofNat (d : Byte) : d.extractLsb' 5 3 = BitVec.ofNat 3 (d.toNat / 32) := by
  apply BitVec.eq_of_toNat_eq
  rw [extract_toNat, BitVec.toNat_ofNat]
  omega

/-! ### Control, mask, status and OAM address -/

theorem exec_w0 (d : Byte) (s : State) :
    exec (.w0 d) s = .next { s with
      busLatch := d, nmiEnable := d.getLsbD 7, spriteSize := d.getLsbD 5, bgPatternSel := d.getLsbD 4,
      sprPatternSel := d.getLsbD 3, vramInc32 := d.getLsbD 2, t := tAfterControl s.t d,
      irqLine := irqLevel (d.getLsbD 7) s.vblank, log := .irqSet (irqLevel (d.getLsbD 7) s.vblank) :: s.log } := rfl

/-- Settles O6: `exec_w0`, with `t` in the mask form of R161 and the level as the conjunction. -/
theorem controlWriteSetsFieldsAndLine : Obligations.ControlWriteSetsFieldsAndLine := by
  unfold Obligations.ControlWriteSetsFieldsAndLine
  intro s d
  rw [exec_w0, tAfterControl_mask, irqLevel]

theorem exec_w1 (d : Byte) (s : State) :
    exec (.w1 d) s = .next { s with
      busLatch := d, emphasis := d.extractLsb' 5 3, sprEnable := d.getLsbD 4, bgEnable := d.getLsbD 3,
      sprEdgeClip := !d.getLsbD 2, bgEdgeClip := !d.getLsbD 1, grayscale := d.getLsbD 0 } := rfl

/-- Settles O7: `exec_w1`, with the emphasis field as a quotient. -/
theorem maskWriteSetsFields : Obligations.MaskWriteSetsFields := by
  unfold Obligations.MaskWriteSetsFields
  intro s d
  rw [exec_w1, highThreeBits_eq_ofNat]

theorem exec_w2 (d : Byte) (s : State) : exec (.w2 d) s = .next { s with busLatch := d } := rfl

theorem exec_w3 (d : Byte) (s : State) : exec (.w3 d) s = .next { s with busLatch := d, oamAddr := d } := rfl

/-- Settles O8, by the meaning of each of the two writes. -/
theorem statusWriteIgnoredAndOamAddressSet : Obligations.StatusWriteIgnoredAndOamAddressSet := by
  unfold Obligations.StatusWriteIgnoredAndOamAddressSet
  exact fun s d => ⟨exec_w2 d s, exec_w3 d s⟩

/-! ### OAM data -/

/-- The pointer goes on modulo 256. -/
theorem oamAddr_succ_eq_ofNat (a : Byte) : a + 1#8 = BitVec.ofNat 8 (a.toNat + 1) := by
  apply BitVec.eq_of_toNat_eq
  rw [BitVec.toNat_add, BitVec.toNat_ofNat, BitVec.toNat_ofNat]

theorem exec_w4 (d : Byte) (s : State) :
    exec (.w4 d) s = .next { s with
      busLatch := d, oam := Memory.write s.oam s.oamAddr.toNat d, oamAddr := s.oamAddr + 1#8 } := rfl

/-- Settles O9: the new OAM is the model's write of one cell, which obeys the laws of a canonical memory. -/
theorem oamDataWriteStoresAndAdvances : Obligations.OamDataWriteStoresAndAdvances := by
  unfold Obligations.OamDataWriteStoresAndAdvances
  intro s d hwf
  refine ⟨Memory.write s.oam s.oamAddr.toNat d, ?next, Memory.wf_write hwf _ _, fun a => Memory.read_write hwf _ a d⟩
  case next => rw [exec_w4, oamAddr_succ_eq_ofNat]

/-! ### Scroll and address -/

theorem exec_w5a (d : Byte) (s : State) :
    exec (.w5a d) s = .next { s with
      busLatch := d, x := d.extractLsb' 0 3, t := tAfterScrollFirst s.t d, w := true } := rfl

theorem exec_w5b (d : Byte) (s : State) :
    exec (.w5b d) s = .next { s with busLatch := d, t := tAfterScrollSecond s.t d, w := false } := rfl

/-- Settles O10: each phase's meaning, with `t` in the mask form of R166 and R167. -/
theorem scrollWritesSplitTheByte : Obligations.ScrollWritesSplitTheByte := by
  unfold Obligations.ScrollWritesSplitTheByte
  refine fun s d => ⟨?first, ?second⟩
  case first => rw [exec_w5a, tAfterScrollFirst_mask, lowThreeBits_eq_ofNat]
  case second => rw [exec_w5b, tAfterScrollSecond_mask]

theorem exec_w6a (d : Byte) (s : State) :
    exec (.w6a d) s = .next { s with busLatch := d, t := tAfterAddressFirst s.t d, w := true } := rfl

theorem exec_w6b (d : Byte) (s : State) :
    exec (.w6b d) s = .next { s with
      busLatch := d, t := tAfterAddressSecond s.t d, v := tAfterAddressSecond s.t d, w := false } := rfl

/-- Settles O11: each phase's meaning, with `t` in the mask form of R168 and R169. -/
theorem addressWritesCommitV : Obligations.AddressWritesCommitV := by
  unfold Obligations.AddressWritesCommitV
  refine fun s d => ⟨?first, ?second⟩
  case first => rw [exec_w6a, tAfterAddressFirst_mask]
  case second => rw [exec_w6b, tAfterAddressSecond_mask]

/-! ### Data -/

/-- R170: the routed write comes after the prologue and before the increment. -/
theorem exec_w7 (d : Byte) (s : State) :
    exec (.w7 d) s = .next (stepV (memWrite (portAddr s.v) d { s with busLatch := d })) := rfl

theorem memWrite_pattern {a : VAddr} (ha : a.toNat < 0x2000) (d : Byte) (s : State) :
    memWrite a d s = { s with mapper := mapperAfterWrite a d s.mapper, log := .patWrite a d :: s.log } := by
  rw [memWrite, if_pos ha, patWrite_eq]

theorem memWrite_nametable {a : VAddr} (hlow : ¬ a.toNat < 0x2000) (ha : a.toNat < 0x3F00) (d : Byte) (s : State) :
    memWrite a d s = { s with mapper := mapperAfterWrite a d s.mapper, log := .ntWrite a d :: s.log } := by
  rw [memWrite, if_neg hlow, if_pos ha, ntWrite_eq]

theorem exec_w7_pattern {s : State} (ha : (portAddr s.v).toNat < 0x2000) (d : Byte) :
    exec (.w7 d) s = .next { s with
      busLatch := d, v := vAfterAccess s.v s.vramInc32, mapper := mapperAfterWrite (portAddr s.v) d s.mapper,
      log := .patWrite (portAddr s.v) d :: s.log } := by
  rw [exec_w7, memWrite_pattern ha]
  rfl

theorem exec_w7_nametable {s : State} (hlow : ¬ (portAddr s.v).toNat < 0x2000) (ha : (portAddr s.v).toNat < 0x3F00)
    (d : Byte) :
    exec (.w7 d) s = .next { s with
      busLatch := d, v := vAfterAccess s.v s.vramInc32, mapper := mapperAfterWrite (portAddr s.v) d s.mapper,
      log := .ntWrite (portAddr s.v) d :: s.log } := by
  rw [exec_w7, memWrite_nametable hlow ha]
  rfl

theorem exec_w7_palette {s : State} (ha : 0x3F00 ≤ (portAddr s.v).toNat) (d : Byte) :
    exec (.w7 d) s = .next { s with
      busLatch := d, v := vAfterAccess s.v s.vramInc32,
      pal := Memory.write s.pal (palKey s ((portAddr s.v).extractLsb' 0 5)) d } := by
  rw [exec_w7, memWrite_palette ha]
  rfl

/-- The palette cell of a port-7 access, by `v` as a number (R72, R78, R80). -/
theorem palKey_portAddr (s : State) :
    palKey s ((portAddr s.v).extractLsb' 0 5) =
      (paletteFold s.params.paletteMirror (BitVec.ofNat 5 (s.v.toNat % 0x4000 % 32))).toNat := by
  rw [palKey, paletteIndex_eq_ofNat, portAddr_toNat]

/-- Settles O12: one law of the data write for each of the three ranges, with the address, the cell and the increment of
`v` in numbers. -/
theorem dataWriteGoesThroughByAddress : Obligations.DataWriteGoesThroughByAddress := by
  unfold Obligations.DataWriteGoesThroughByAddress
  intro s d
  simp only [← vAfterAccess_eq_ofNat, ← portAddr_eq_ofNat, ← palKey_portAddr]
  rw [← portAddr_toNat]
  split_ifs with hpattern hnametable
  · exact exec_w7_pattern hpattern d
  · exact exec_w7_nametable hpattern hnametable d
  · intro hwf
    exact ⟨_, exec_w7_palette (Nat.le_of_not_lt hnametable) d, Memory.wf_write hwf _ _,
      fun k => Memory.read_write hwf _ k d⟩

/-! ### The latch after any write -/

theorem memWrite_busLatch (a : VAddr) (d : Byte) (s : State) : (memWrite a d s).busLatch = s.busLatch := by
  obtain ⟨-, h⟩ | ⟨-, -, h⟩ | ⟨-, h⟩ := memWrite_cases a d s <;> rw [h]

/-- R160 over the rows of the write table. -/
theorem exec_decodeWrite_busLatch (w : Bool) (port : BitVec 3) (d : Byte) (s : State) :
    ∃ s', exec (decodeWrite w port d) s = .next s' ∧ s'.busLatch = d := by
  match port with
  | 0#3 | 1#3 | 2#3 | 3#3 | 4#3 => exact ⟨_, rfl, rfl⟩
  | 5#3 | 6#3 => cases w <;> exact ⟨_, rfl, rfl⟩
  | 7#3 => exact ⟨_, exec_w7 d s, memWrite_busLatch _ d _⟩

/-- Settles O5: a write word decodes to a row of the write table, and each row begins with the prologue. -/
theorem everyWriteUpdatesTheLatch : Obligations.EveryWriteUpdatesTheLatch := by
  unfold Obligations.EveryWriteUpdatesTheLatch
  intro s phase port d
  rw [decodePort_write]
  exact exec_decodeWrite_busLatch phase _ d s

/-! ### The scroll pair of a gap -/

/-- `W5` in the first phase (R166). -/
theorem step_traceWrite_scrollFirst {s : State} {d : Byte} {rest : List GapAction} (hw : s.w = false)
    (h : s.gap = traceWrite 5 d :: rest) :
    step s = .next { s with
      busLatch := d, x := d.extractLsb' 0 3, t := tAfterScrollFirst s.t d, w := true, gap := rest } := by
  rw [step_traceWrite h, hw]
  exact exec_w5a d _

/-- `W5` in the second phase (R167). -/
theorem step_traceWrite_scrollSecond {s : State} {d : Byte} {rest : List GapAction} (hw : s.w = true)
    (h : s.gap = traceWrite 5 d :: rest) :
    step s = .next { s with busLatch := d, t := tAfterScrollSecond s.t d, w := false, gap := rest } := by
  rw [step_traceWrite h, hw]
  exact exec_w5b d _

/-- The state the scroll pair `a`, `b` leads to from `w` = 0, with `rest` left of the gap. -/
def afterScroll (a b : Byte) (rest : List GapAction) (s : State) : State :=
  { s with
    busLatch := b, x := a.extractLsb' 0 3, t := tAfterScrollSecond (tAfterScrollFirst s.t a) b, w := false, gap := rest }

theorem runSteps_scrollPair {s : State} {a b : Byte} {rest : List GapAction} (hw : s.w = false)
    (h : s.gap = traceWrite 5 a :: traceWrite 5 b :: rest) : runSteps 2 s = .next (afterScroll a b rest s) := by
  rw [runSteps_succ (step_traceWrite_scrollFirst hw h), runSteps_succ (step_traceWrite_scrollSecond rfl rfl),
    runSteps_zero]
  rfl

/-- The scroll pair lays out every field of `t` but the nametable bits. -/
theorem tAfterScroll_pair_toNat (t : VReg) (a b : Byte) :
    (tAfterScrollSecond (tAfterScrollFirst t a) b).toNat =
      4096 * (b.toNat % 8) + 1024 * (t.toNat / 1024 % 4) + 32 * (b.toNat / 8) + a.toNat / 8 := by
  have := a.isLt
  rw [tAfterScrollSecond_toNat, tAfterScrollFirst_toNat]
  omega

/-- Settles O13: the two steps lead to `afterScroll`, whose `x` is the low field of A and whose `t` is
`tAfterScroll_pair_toNat`. -/
theorem scrollPairLaysOutT : Obligations.ScrollPairLaysOutT := by
  unfold Obligations.ScrollPairLaysOutT
  intro s a b rest hw hgap
  exact ⟨afterScroll a b rest s, runSteps_scrollPair hw hgap, lowThreeBits_toNat a, tAfterScroll_pair_toNat s.t a b,
    rfl, rfl, rfl⟩

end Sys2Proof.Machine
end

section
/-! The raster agent's operations on `v` (spec/42_scroll_algebra.md R195 to R199): the new `v` of each in the mask form of its
rule, its next state, and what a dot step leaves alone with rendering disabled (R94, R199). -/

namespace Sys2Proof.Machine

/-! ### Masks and steps of a packed register (R24, R191) -/

theorem packReg_and (fy fy' : BitVec 3) (nt nt' : BitVec 2) (cy cy' cx cx' : BitVec 5) :
    packReg fy nt cy cx &&& packReg fy' nt' cy' cx' = packReg (fy &&& fy') (nt &&& nt') (cy &&& cy') (cx &&& cx') := by
  simp only [packReg, ← BitVec.and_append]

theorem packReg_xor (fy fy' : BitVec 3) (nt nt' : BitVec 2) (cy cy' cx cx' : BitVec 5) :
    packReg fy nt cy cx ^^^ packReg fy' nt' cy' cx' = packReg (fy ^^^ fy') (nt ^^^ nt') (cy ^^^ cy') (cx ^^^ cx') := by
  simp only [packReg, ← BitVec.xor_append]

/-- A mask laid out as a register acts on each field. -/
theorem and_packReg (v : VReg) (fy : BitVec 3) (nt : BitVec 2) (cy cx : BitVec 5) :
    v &&& packReg fy nt cy cx = packReg (fineY v &&& fy) (ntSelect v &&& nt) (coarseY v &&& cy) (coarseX v &&& cx) := by
  rw [← packReg_and, packReg_fields]

/-- All but coarse X. -/
theorem and_0x7FE0 (v : VReg) : v &&& 0x7FE0#15 = packReg (fineY v) (ntSelect v) (coarseY v) 0#5 := by
  have hmask : 0x7FE0#15 = packReg (BitVec.allOnes 3) (BitVec.allOnes 2) (BitVec.allOnes 5) 0#5 := by decide
  simp only [hmask, and_packReg, BitVec.and_allOnes, BitVec.and_zero]

/-- Coarse X alone. -/
theorem and_0x001F (v : VReg) : v &&& 0x001F#15 = packReg 0#3 0#2 0#5 (coarseX v) := by
  have hmask : 0x001F#15 = packReg 0#3 0#2 0#5 (BitVec.allOnes 5) := by decide
  simp only [hmask, and_packReg, BitVec.and_allOnes, BitVec.and_zero]

/-- The nametable select and coarse X. -/
theorem and_0x0C1F (v : VReg) : v &&& 0x0C1F#15 = packReg 0#3 (ntSelect v) 0#5 (coarseX v) := by
  have hmask : 0x0C1F#15 = packReg 0#3 (BitVec.allOnes 2) 0#5 (BitVec.allOnes 5) := by decide
  simp only [hmask, and_packReg, BitVec.and_allOnes, BitVec.and_zero]

/-- All but fine Y. -/
theorem and_0x0FFF (v : VReg) : v &&& 0x0FFF#15 = packReg 0#3 (ntSelect v) (coarseY v) (coarseX v) := by
  have hmask : 0x0FFF#15 = packReg 0#3 (BitVec.allOnes 2) (BitVec.allOnes 5) (BitVec.allOnes 5) := by decide
  simp only [hmask, and_packReg, BitVec.and_allOnes, BitVec.and_zero]

/-- Below 31 coarse X steps without a carry. -/
theorem packReg_add_coarseX {cx : BitVec 5} (h : cx ≠ 31#5) (fy : BitVec 3) (nt : BitVec 2) (cy : BitVec 5) :
    packReg fy nt cy cx + 1#15 = packReg fy nt cy (cx + 1#5) := by
  have hcx : cx.toNat ≠ 31 := fun hn => h (BitVec.eq_of_toNat_eq hn)
  apply BitVec.eq_of_toNat_eq
  simp only [BitVec.toNat_add, packReg_toNat, BitVec.toNat_ofNat]
  omega

/-- Below 31 coarse Y steps without a carry. -/
theorem packReg_add_coarseY {cy : BitVec 5} (h : cy ≠ 31#5) (fy : BitVec 3) (nt : BitVec 2) (cx : BitVec 5) :
    packReg fy nt cy cx + 0x0020#15 = packReg fy nt (cy + 1#5) cx := by
  have hcy : cy.toNat ≠ 31 := fun hn => h (BitVec.eq_of_toNat_eq hn)
  apply BitVec.eq_of_toNat_eq
  simp only [BitVec.toNat_add, packReg_toNat, BitVec.toNat_ofNat]
  omega

/-- Fine Y is the top field, so its step needs no bound: the carry is lost in both. -/
theorem packReg_add_fineY (fy : BitVec 3) (nt : BitVec 2) (cy cx : BitVec 5) :
    packReg fy nt cy cx + 0x1000#15 = packReg (fy + 1#3) nt cy cx := by
  apply BitVec.eq_of_toNat_eq
  simp only [BitVec.toNat_add, packReg_toNat, BitVec.toNat_ofNat]
  omega

/-! ### The new `v` in the mask form of its rule -/

theorem coarseX_eq_31_iff (v : VReg) : coarseX v = 31#5 ↔ v &&& 0x001F#15 = 0x001F#15 := by
  have hmask : 0x001F#15 = packReg 0#3 0#2 0#5 31#5 := by decide
  rw [and_0x001F, hmask]
  exact ⟨congrArg _, fun h => by simpa using congrArg coarseX h⟩

theorem coarseY_eq_iff (v : VReg) (c : BitVec 5) : coarseY v = c ↔ v.toNat / 32 % 32 = c.toNat := by
  rw [← BitVec.toNat_inj, coarseY_toNat]

/-- Fine Y is the top field. -/
theorem fineY_toNat_eq_div (v : VReg) : (fineY v).toNat = v.toNat / 4096 := by
  have := v.isLt
  rw [fineY_toNat]
  omega

/-- R195. -/
theorem vAfterIncX_mask (v : VReg) :
    vAfterIncX v =
      if v &&& 0x001F#15 = 0x001F#15 then (v &&& 0x7FE0#15) ^^^ 0x0400#15 else v + 1#15 := by
  have htoggle : 0x0400#15 = packReg 0#3 1#2 0#5 0#5 := by decide
  simp only [vAfterIncX, ← coarseX_eq_31_iff]
  split
  case isTrue => simp only [and_0x7FE0, htoggle, packReg_xor, BitVec.xor_zero]
  case isFalse hcx => rw [← packReg_add_coarseX hcx, packReg_fields]

/-- R196. -/
theorem vAfterIncY_mask (v : VReg) :
    vAfterIncY v =
      if v.toNat / 4096 < 7 then v + 0x1000#15
      else if v.toNat / 32 % 32 = 29 then (v &&& 0x0C1F#15) ^^^ 0x0800#15
      else if v.toNat / 32 % 32 = 31 then v &&& 0x0C1F#15
      else (v &&& 0x0FFF#15) + 0x0020#15 := by
  have htoggle : 0x0800#15 = packReg 0#3 2#2 0#5 0#5 := by decide
  have h29 : v.toNat / 32 % 32 = 29 ↔ coarseY v = 29#5 := (coarseY_eq_iff v 29#5).symm
  have h31 : v.toNat / 32 % 32 = 31 ↔ coarseY v = 31#5 := (coarseY_eq_iff v 31#5).symm
  simp only [vAfterIncY, ← fineY_toNat_eq_div, h29, h31]
  split
  case isTrue => rw [← packReg_add_fineY, packReg_fields]
  split
  case isTrue => simp only [and_0x0C1F, htoggle, packReg_xor, BitVec.xor_zero]
  split
  case isTrue => rw [and_0x0C1F]
  case isFalse hcy => rw [and_0x0FFF, packReg_add_coarseY hcy]

/-- R197, bit by bit. -/
theorem getLsbD_vAfterCopyH (v t : VReg) (i : Fin 15) :
    (vAfterCopyH v t).getLsbD i.val =
      if i.val < 5 ∨ i.val = 10 then t.getLsbD i.val else v.getLsbD i.val := by
  have htaken : ∀ i : Fin 15, (0x041F#15).getLsbD i.val = decide (i.val < 5 ∨ i.val = 10) := by decide
  have hkept : ∀ i : Fin 15, (0x7BE0#15).getLsbD i.val = !decide (i.val < 5 ∨ i.val = 10) := by decide
  rw [vAfterCopyH, BitVec.getLsbD_or, BitVec.getLsbD_and, BitVec.getLsbD_and, htaken, hkept]
  by_cases h : i.val < 5 ∨ i.val = 10 <;> simp [h]

/-! ### The next states -/

/-- R199, with `rendering` written out (R38): the next state of an operation on `v`. -/
theorem next_setVIfRendering (v : VReg) (s : State) :
    (.next (setVIfRendering v s) : Result) = .next (if s.bgEnable || s.sprEnable then { s with v := v } else s) := rfl

theorem exec_incx (s : State) : exec .incx s = .next (setVIfRendering (vAfterIncX s.v) s) := rfl

theorem exec_pincx (s : State) : exec .pincx s = .next (setVIfRendering (vAfterIncX s.v) s) := rfl

theorem exec_incy (s : State) : exec .incy s = .next (setVIfRendering (vAfterIncY s.v) s) := rfl

theorem exec_copyh (s : State) : exec .copyh s = .next (setVIfRendering (vAfterCopyH s.v s.t) s) := rfl

theorem exec_copyv (s : State) : exec .copyv s = .next (setVIfRendering s.t s) := rfl

/-- Settles O16: both meanings set `v` to `vAfterIncX`, which `vAfterIncX_mask` puts in the form of R195. -/
theorem incXStepsCoarseX : Obligations.IncXStepsCoarseX := by
  unfold Obligations.IncXStepsCoarseX
  intro s
  rw [exec_incx, exec_pincx, vAfterIncX_mask, next_setVIfRendering]
  exact ⟨rfl, rfl⟩

/-- Settles O17, by `vAfterIncY_mask`. -/
theorem incYStepsFineThenCoarseY : Obligations.IncYStepsFineThenCoarseY := by
  unfold Obligations.IncYStepsFineThenCoarseY
  intro s
  rw [exec_incy, vAfterIncY_mask, next_setVIfRendering]

/-- Settles O18: the new `v` of COPYH is `vAfterCopyH`, that of COPYV is `t`. -/
theorem copiesTakeBitsOfT : Obligations.CopiesTakeBitsOfT := by
  unfold Obligations.CopiesTakeBitsOfT
  refine fun s => ⟨⟨vAfterCopyH s.v s.t, ?copyh, getLsbD_vAfterCopyH s.v s.t⟩, ?copyv⟩
  case copyh => rw [exec_copyh, next_setVIfRendering]
  case copyv => rw [exec_copyv, next_setVIfRendering]

/-! ### Rendering disabled (R94, R199) -/

/-- What a dot step leaves alone with rendering disabled. -/
def State.vAndMapperCalls (s : State) : VReg × Nat := (s.v, s.mapperCalls)

/-- The enables are on the CPU's side. -/
theorem rendering_eq_of_cpuSide_eq {s s' : State} (h : s'.cpuSide = s.cpuSide) : s'.rendering = s.rendering := by
  have hside := congrArg State.rendering h
  exact hside

theorem fetch_off_vAndMapperCalls {s : State} (hr : s.rendering = false) (a : VAddr) :
    (fetch a s).2.vAndMapperCalls = s.vAndMapperCalls := by
  rw [fetch_off hr]

theorem setVIfRendering_off {s : State} (hr : s.rendering = false) (v : VReg) : setVIfRendering v s = s := by
  rw [setVIfRendering, hr]
  rfl

/-- With rendering disabled no micro-operation writes `v` or calls the mapper. -/
theorem exec_off_vAndMapperCalls {i : Instr} {s s' : State} (hi : isTransaction i = false) (hr : s.rendering = false)
    (h : exec i s = .next s') : s'.vAndMapperCalls = s.vAndMapperCalls := by
  cases i
  case r0 | r1 | r2 | r3 | r4 | r5 | r6 | r7 | w0 | w1 | w2 | w3 | w4 | w5a | w5b | w6a | w6b | w7 => cases hi
  case ntf | atf | plf | phf | pntf | patf | pplf | pphf | sntf | satf | splf | sphf | idlef1 | idlef2 =>
    cases h
    exact fetch_off_vAndMapperCalls hr _
  case incx | pincx | incy | copyh | copyv =>
    cases h
    exact congrArg State.vAndMapperCalls (setVIfRendering_off hr _)
  case syncchk =>
    simp only [exec, execSyncchk] at h
    split at h <;> cases h <;> rfl
  case eval n =>
    obtain h' | ⟨-, h'⟩ | ⟨-, -, -, h'⟩ := execEval_cases n s <;> cases h'.symm.trans h <;> rfl
  case advance => obtain ⟨-, rfl⟩ | ⟨-, -, rfl⟩ | ⟨-, -, rfl⟩ := advance_cases h <;> rfl
  case ls241 | ls261 | prefill | pixel | reload | preload | bankcopy =>
    cases h
    rfl

/-- Rendering stays disabled through the micro-operations of a position, so all of them leave `v` and the mapper alone. -/
theorem runAll_decodeDot_off_vAndMapperCalls {ly lx : Dot} {s m : State} (hr : s.rendering = false)
    (h : runAll (decodeDot ly lx) s = .next m) : m.vAndMapperCalls = s.vAndMapperCalls := by
  refine (runAll_keeps (P := fun t => t.rendering = false ∧ t.vAndMapperCalls = s.vAndMapperCalls) ?step ⟨hr, rfl⟩ h).2
  case step =>
    rintro i hmem t t' ⟨htr, ht⟩ hexec
    have hi := isTransaction_of_mem_decodeDot hmem
    exact ⟨(rendering_eq_of_cpuSide_eq (exec_cpuSide hi hexec)).trans htr, (exec_off_vAndMapperCalls hi htr hexec).trans ht⟩

theorem openGap_vAndMapperCalls (s : State) : (openGap s).vAndMapperCalls = s.vAndMapperCalls := rfl

/-- Settles O19: the micro-operations run to their end and leave `v` and the mapper alone, and so does the hand-over. -/
theorem renderingOffLeavesVAndMapperAlone : Obligations.RenderingOffLeavesVAndMapperAlone := by
  unfold Obligations.RenderingOffLeavesVAndMapperAlone
  intro s hgap hr
  obtain ⟨m, hrun⟩ := runAll_completes (decodeDot s.ly s.lx) s
  have hkept := (openGap_vAndMapperCalls m).trans (runAll_decodeDot_off_vAndMapperCalls hr hrun)
  exact ⟨openGap m, (step_dot hgap).trans (dotStep_of_runAll hrun), congrArg Prod.fst hkept, congrArg Prod.snd hkept⟩

end Sys2Proof.Machine
end

section
/-! The sprite evaluator's instructions (spec/43_sprite_evaluator.md R211 to R216): the next state of PREFILL, BANKCOPY and
each outcome of EVAL, and of a whole line's evaluation. -/

namespace Sys2Proof.Machine

/-! ### PREFILL and BANKCOPY -/

/-- The evaluation bank with nothing in it (R211). -/
def sentinelBank : SpriteBank := Vector.replicate 8 SpriteEntry.sentinel

@[simp] theorem sentinelBank_getElem (i : Fin 8) : sentinelBank[i] = SpriteEntry.sentinel :=
  Vector.getElem_replicate i.isLt

theorem exec_prefill (s : State) : exec .prefill s = .next { s with sec := sentinelBank, secCount := 0#4 } := rfl

theorem exec_bankcopy (s : State) : exec .bankcopy s = .next { s with spr := s.sec } := rfl

/-- Settles O20: the bank of PREFILL is `sentinelBank`, that of BANKCOPY is `SEC`. -/
theorem prefillAndBankCopy : Obligations.PrefillAndBankCopy := by
  unfold Obligations.PrefillAndBankCopy
  exact fun s => ⟨⟨sentinelBank, exec_prefill s, sentinelBank_getElem⟩, ⟨s.sec, exec_bankcopy s, fun _ => rfl⟩⟩

/-! ### One EVAL -/

/-- R212: sprite `n` of `OAM` matches on the present line. -/
def State.matchesSprite (s : State) (n : BitVec 6) : Bool :=
  spriteMatches s.spriteSize s.ly (Memory.read s.oam (oamKey n 0))

theorem exec_eval_off {s : State} (hr : s.rendering = false) (n : BitVec 6) : exec (.eval n) s = .next s := by
  simp only [exec, execEval, hr, Bool.false_eq_true, if_false]

/-- R213: with rendering enabled an EVAL is the evaluation of its sprite. -/
theorem exec_eval_on {s : State} (hr : s.rendering = true) (n : BitVec 6) :
    exec (.eval n) s = .next (evalSprite n s) := by
  simp only [exec, execEval, hr, if_true]

theorem evalSprite_noMatch {n : BitVec 6} {s : State} (hm : s.matchesSprite n = false) : evalSprite n s = s :=
  if_neg (Bool.eq_false_iff.mp hm)

/-- R213: a match with eight slots filled. -/
theorem evalSprite_full {n : BitVec 6} {s : State} (hm : s.matchesSprite n = true) (hc : s.secCount = 8#4) :
    evalSprite n s = { s with sprovf := true } := by
  have hfull : bankFull s.secCount = true := beq_iff_eq.mpr hc
  exact (if_pos hm).trans (if_pos hfull)

/-- R213: a match with a slot free. -/
theorem evalSprite_append {n : BitVec 6} {s : State} (hm : s.matchesSprite n = true) (hc : s.secCount ≠ 8#4) :
    evalSprite n s =
      { s with sec := s.sec.setIfInBounds s.secCount.toNat (evalEntry n s), secCount := s.secCount + 1#4 } := by
  have hfree : ¬ bankFull s.secCount = true := fun h => hc (beq_iff_eq.mp h)
  exact (if_pos hm).trans (if_neg hfree)

theorem exec_eval_noMatch {n : BitVec 6} {s : State} (hm : s.matchesSprite n = false) :
    exec (.eval n) s = .next s := by
  cases hr : s.rendering with
  | false => exact exec_eval_off hr n
  | true => rw [exec_eval_on hr, evalSprite_noMatch hm]

/-- The line of R212 in numbers, -1 on the pre-render line. -/
theorem evalLine_eq (ly : Dot) : evalLine ly = if ly.toNat = 261 then -1 else (ly.toNat : Int) := by
  rw [evalLine]
  exact if_congr (BitVec.toNat_inj (y := 261#9)).symm rfl rfl

theorem spriteHeight_eq (size : Bool) : (spriteHeight size : Int) = if size then 16 else 8 := by
  cases size <;> rfl

theorem matchesSprite_iff (s : State) (n : BitVec 6) :
    s.matchesSprite n = true ↔
      0 ≤ rowDiff s.ly (Memory.read s.oam (oamKey n 0)) ∧
        rowDiff s.ly (Memory.read s.oam (oamKey n 0)) < (if s.spriteSize then 16 else 8) := by
  rw [State.matchesSprite, spriteMatches, Bool.and_eq_true, decide_eq_true_iff, decide_eq_true_iff, spriteHeight_eq]

/-- The row of a matching sprite is its row difference: it fits the four bits (R53). -/
theorem evalEntry_row_toNat {s : State} {n : BitVec 6} (hm : s.matchesSprite n = true) :
    ((evalEntry n s).row.toNat : Int) = rowDiff s.ly (Memory.read s.oam (oamKey n 0)) := by
  obtain ⟨hlow, hhigh⟩ := (matchesSprite_iff s n).mp hm
  have hlt : rowDiff s.ly (Memory.read s.oam (oamKey n 0)) < 16 := by split at hhigh <;> omega
  rw [evalEntry, BitVec.toNat_ofInt, Int.toNat_of_nonneg (by omega)]
  exact Int.emod_eq_of_lt hlow hlt

/-- R213: the fields of the entry, the number and the cells written in numbers. -/
theorem evalEntry_eq (n : BitVec 6) (s : State) :
    evalEntry n s =
      { id := BitVec.ofNat 7 n.toNat, row := (evalEntry n s).row, tile := Memory.read s.oam (4 * n.toNat + 1),
        attr := Memory.read s.oam (4 * n.toNat + 2), x := Memory.read s.oam (4 * n.toNat + 3), lo := 0x00#8,
        hi := 0x00#8 } := by
  rw [BitVec.ofNat_toNat]
  rfl

/-- R213: a matching EVAL with a slot free, the slot and the count written in numbers. -/
theorem exec_eval_append {n : BitVec 6} {s : State} (hr : s.rendering = true) (hm : s.matchesSprite n = true)
    (hc : s.secCount.toNat < 8) :
    exec (.eval n) s = .next { s with
      sec := s.sec.set s.secCount.toNat (evalEntry n s) hc, secCount := BitVec.ofNat 4 (s.secCount.toNat + 1) } := by
  have hne : s.secCount ≠ 8#4 := by bv_omega
  have hcount : s.secCount + 1#4 = BitVec.ofNat 4 (s.secCount.toNat + 1) := by bv_omega
  rw [exec_eval_on hr, evalSprite_append hm hne, hcount]
  have hsec : s.sec.setIfInBounds s.secCount.toNat (evalEntry n s) = s.sec.set s.secCount.toNat (evalEntry n s) hc := by
    ext1 i hi
    rw [Vector.getElem_setIfInBounds, Vector.getElem_set]
  rw [hsec]

/-- Settles O21: the two clauses that change nothing by `exec_eval_off` and `exec_eval_noMatch`, the overflow by
`evalSprite_full`, the append by `exec_eval_append` with the row of `evalEntry_row_toNat`. -/
theorem evalAppendsOrOverflows : Obligations.EvalAppendsOrOverflows := by
  unfold Obligations.EvalAppendsOrOverflows
  intro n s hcount
  have hline : ∀ y : Byte, (if s.ly.toNat = 261 then -1 else (s.ly.toNat : Int)) - (y.toNat : Int) = rowDiff s.ly y :=
    fun y => by rw [rowDiff, evalLine_eq]
  have hmatch := matchesSprite_iff s n
  rw [show oamKey n 0 = 4 * n.toNat from rfl] at hmatch
  simp only [hline]
  refine ⟨fun hr => exec_eval_off hr n, fun hno => ?noMatch, fun hr hlow hhigh hfull => ?full,
    fun hr hlow hhigh hfree => ?append⟩
  case noMatch => exact exec_eval_noMatch (Bool.eq_false_iff.mpr fun hm => hno (hmatch.mp hm))
  case full =>
    rw [exec_eval_on hr, evalSprite_full (hmatch.mpr ⟨hlow, hhigh⟩) (BitVec.eq_of_toNat_eq hfull)]
  case append =>
    have hm := hmatch.mpr ⟨hlow, hhigh⟩
    exact ⟨(evalEntry n s).row, evalEntry_row_toNat hm, evalEntry_eq n s ▸ exec_eval_append hr hm hfree⟩

/-! ### The evaluation of a line -/

/-- The bank that holds the first eight of a list of entries in order, and the sentinel past its end. -/
def bankOf (entries : List SpriteEntry) : SpriteBank := Vector.ofFn fun i : Fin 8 => entries[i.val]?.getD SpriteEntry.sentinel

/-- The state once the sprites of a list have been found on the line: the first eight stand in the bank, and a ninth has set
the flag (R213, R214). -/
def State.found (s : State) (sprites : List (BitVec 6)) : State :=
  { s with
    sec := bankOf (sprites.map (evalEntry · s)), secCount := BitVec.ofNat 4 (min 8 sprites.length),
    sprovf := s.sprovf || decide (8 < sprites.length) }

theorem bankOf_getElem (entries : List SpriteEntry) (i : Fin 8) :
    (bankOf entries)[i] = entries[i.val]?.getD SpriteEntry.sentinel := by
  simp [bankOf]

/-- A further entry goes to the first free slot, and nowhere if there is none. -/
theorem bankOf_append (entries : List SpriteEntry) (e : SpriteEntry) :
    bankOf (entries ++ [e]) = (bankOf entries).setIfInBounds entries.length e := by
  ext1 i hi
  rw [Vector.getElem_setIfInBounds]
  simp only [bankOf, Vector.getElem_ofFn]
  split
  · subst i
    rw [List.getElem?_concat_length, Option.getD_some]
  · have hne : i ≠ entries.length := Ne.symm ‹_›
    rw [List.getElem?_append]
    split
    · rfl
    · rw [List.getElem?_singleton, if_neg (by omega), List.getElem?_eq_none (by omega)]

theorem found_secCount_toNat (s : State) (sprites : List (BitVec 6)) :
    (s.found sprites).secCount.toNat = min 8 sprites.length :=
  (BitVec.toNat_ofNat _ _).trans (Nat.mod_eq_of_lt (by omega))

/-- R213: up to eight, one more sprite found fills one more slot. -/
theorem found_append_free (s : State) {sprites : List (BitVec 6)} (h : sprites.length < 8) (n : BitVec 6) :
    s.found (sprites ++ [n]) = { s.found sprites with
      sec := (s.found sprites).sec.setIfInBounds (s.found sprites).secCount.toNat (evalEntry n s),
      secCount := (s.found sprites).secCount + 1#4 } := by
  have hlength : (sprites ++ [n]).length = sprites.length + 1 := List.length_append
  have hindex := found_secCount_toNat s sprites
  have hcount : BitVec.ofNat 4 (min 8 (sprites ++ [n]).length) = (s.found sprites).secCount + 1#4 := by
    rw [hlength]
    bv_omega
  have hflag : decide (8 < (sprites ++ [n]).length) = decide (8 < sprites.length) :=
    decide_eq_decide.mpr (by omega)
  rw [hindex, ← hcount, Nat.min_eq_right h.le]
  simp only [State.found, hflag, List.map_append, List.map_cons, List.map_nil, bankOf_append, List.length_map]

/-- R213: past eight, one more sprite found sets the flag. -/
theorem found_append_full (s : State) {sprites : List (BitVec 6)} (h : 8 ≤ sprites.length) (n : BitVec 6) :
    s.found (sprites ++ [n]) = { s.found sprites with sprovf := true } := by
  have hlength : (sprites ++ [n]).length = sprites.length + 1 := List.length_append
  have hcount : min 8 (sprites ++ [n]).length = min 8 sprites.length := by omega
  have hflag : decide (8 < (sprites ++ [n]).length) = true := decide_eq_true (by omega)
  have hsec : bankOf ((sprites ++ [n]).map (evalEntry · s)) = bankOf (sprites.map (evalEntry · s)) := by
    rw [List.map_append]
    exact (bankOf_append _ _).trans (Vector.setIfInBounds_eq_of_size_le (h.trans_eq (List.length_map _).symm))
  rw [State.found, hcount, hflag, hsec, Bool.or_true]
  rfl

theorem exec_prefill_found (s : State) : exec .prefill s = .next (s.found []) := by
  have hsec : sentinelBank = bankOf [] := by
    ext1 i hi
    simp [sentinelBank, bankOf]
  have hflag : (s.sprovf || decide (8 < ([] : List (BitVec 6)).length)) = s.sprovf := Bool.or_false _
  rw [exec_prefill, hsec, State.found, hflag]
  rfl

/-- An EVAL reads nothing that an earlier one of the line wrote but the count (R212, R213), so it appends its sprite to those
found if it matches. -/
theorem exec_eval_found {s : State} (hr : s.rendering = true) (sprites : List (BitVec 6)) (n : BitVec 6) :
    exec (.eval n) (s.found sprites) = .next (s.found (sprites ++ if s.matchesSprite n then [n] else [])) := by
  cases hm : s.matchesSprite n with
  | false =>
    rw [if_neg Bool.false_ne_true, List.append_nil]
    exact exec_eval_noMatch (s := s.found sprites) hm
  | true =>
    rw [if_pos rfl]
    have hcount := found_secCount_toNat s sprites
    rw [exec_eval_on (s := s.found sprites) hr]
    by_cases hfree : sprites.length < 8
    · rw [found_append_free s hfree, evalSprite_append (s := s.found sprites) hm (by bv_omega)]
      rfl
    · rw [found_append_full s (by omega), evalSprite_full (s := s.found sprites) hm (by bv_omega)]

theorem runAll_evals_found {s : State} (hr : s.rendering = true) (ns : List (BitVec 6)) (sprites : List (BitVec 6)) :
    runAll (ns.map .eval) (s.found sprites) = .next (s.found (sprites ++ ns.filter s.matchesSprite)) := by
  induction ns generalizing sprites with
  | nil => rw [List.filter_nil, List.append_nil]; rfl
  | cons n ns ih =>
    rw [List.map_cons, runAll_cons (exec_eval_found hr sprites n), ih, List.append_assoc, List.filter_cons]
    cases s.matchesSprite n <;> rfl

/-- Settles O22: the line's evaluation ends with the matching sprites found. -/
theorem evaluationSelectsTheFirstEight : Obligations.EvaluationSelectsTheFirstEight := by
  unfold Obligations.EvaluationSelectsTheFirstEight
  intro s hr
  have hlist : evaluationOfLine = .prefill :: ((List.range 64).map (BitVec.ofNat 6)).map .eval := by
    rw [List.map_map]
    rfl
  refine ⟨bankOf (s.matchingSprites.map (evalEntry · s)), ?run, fun i => ?slot⟩
  case run =>
    rw [hlist, runAll_cons (exec_prefill_found s), runAll_evals_found hr]
    rfl
  case slot =>
    rw [bankOf_getElem, List.getElem?_map]
    cases s.matchingSprites[i.val]? <;> rfl

end Sys2Proof.Machine
end

section
/-! Where a dot step selects the instructions that write the sprite banks or the sprite-zero flag (R117, R231), and what the
other instructions leave of both. -/

namespace Sys2Proof

/-! ### The positions -/

/-- A micro-operation stands where its row of the table says (R112, R117). -/
theorem match_of_mem_dotFront {i : Instr} {ly lx : Dot} {mask pattern : Nat} (h : i ∈ dotFront ly lx)
    (hrow : Laws.tableRow i = (mask, pattern)) : lx.toNat &&& mask = pattern := by
  have hrows : ∀ r ∈ dotTable.dropLast, Laws.tableRow (r.build lx) = (r.mask.toNat, r.pattern.toNat) := by
    simp [dotTable, dotRowsLineStart, dotRowsTransfer, dotRowsFetch, dotRowsPicture, Laws.tableRow]
  obtain ⟨r, hr, hsel, rfl⟩ := mem_dotFront.mp h
  have hmatch : lx &&& r.mask = r.pattern := by
    rw [dotSelects, Bool.and_eq_true] at hsel
    exact beq_iff_eq.mp hsel.2
  obtain ⟨rfl, rfl⟩ := Prod.mk.inj ((hrows r hr).symm.trans hrow)
  rw [← BitVec.toNat_and, hmatch]

/-- A bit of `lx` under the row's mask is the bit of its match. -/
theorem bit_of_mem_dotFront {i : Instr} {ly lx : Dot} {mask pattern : Nat} (h : i ∈ dotFront ly lx)
    (hrow : Laws.tableRow i = (mask, pattern)) (k : Nat) (hk : mask.testBit k = true) :
    lx.toNat / 2 ^ k % 2 = pattern / 2 ^ k % 2 := by
  rw [← match_of_mem_dotFront h hrow, ← Nat.toNat_testBit, ← Nat.toNat_testBit, Nat.testBit_and, hk, Bool.and_true]

/-- A row with every bit of `lx` under its mask is selected at one dot. -/
theorem lx_of_mem_dotFront_of_fullMask {i : Instr} {ly lx : Dot} {k : Nat} (h : i ∈ dotFront ly lx)
    (hrow : Laws.tableRow i = (2 ^ 9 - 1, k)) : lx.toNat = k := by
  have hmatch := match_of_mem_dotFront h hrow
  rwa [Nat.and_two_pow_sub_one_of_lt_two_pow lx.isLt] at hmatch

theorem lx_of_prefill_mem_dotFront {ly lx : Dot} (h : .prefill ∈ dotFront ly lx) : lx.toNat = 0 :=
  lx_of_mem_dotFront_of_fullMask h rfl

theorem lx_of_bankcopy_mem_dotFront {ly lx : Dot} (h : .bankcopy ∈ dotFront ly lx) : lx.toNat = 256 :=
  lx_of_mem_dotFront_of_fullMask h rfl

theorem lx_of_pixel_mem_dotFront {col : BitVec 8} {ly lx : Dot} (h : .pixel col ∈ dotFront ly lx) : lx.toNat < 256 := by
  have hbit : lx.toNat / 256 % 2 = 0 := bit_of_mem_dotFront h rfl 8 (by decide)
  have := lx.isLt
  omega

/-- A sprite plane is fetched in the second half of the line. -/
theorem lx_of_splf_mem_dotFront {slot : BitVec 3} {ly lx : Dot} (h : .splf slot ∈ dotFront ly lx) : 256 ≤ lx.toNat := by
  have hbit : lx.toNat / 256 % 2 = 1 := bit_of_mem_dotFront h rfl 8 (by decide)
  omega

theorem lx_of_sphf_mem_dotFront {slot : BitVec 3} {ly lx : Dot} (h : .sphf slot ∈ dotFront ly lx) : 256 ≤ lx.toNat := by
  have hbit : lx.toNat / 256 % 2 = 1 := bit_of_mem_dotFront h rfl 8 (by decide)
  omega

/-- R210: the dot of sprite `n` is `4n + 3`. -/
theorem lx_of_eval_mem_dotFront {n : BitVec 6} {ly lx : Dot} (h : .eval n ∈ dotFront ly lx) :
    lx.toNat = 4 * n.toNat + 3 := by
  have hrows : ∀ r ∈ dotTable.dropLast, r.build lx = .eval n → lx.extractLsb' 2 6 = n := by
    simp [dotTable, dotRowsLineStart, dotRowsTransfer, dotRowsFetch, dotRowsPicture]
  obtain ⟨r, hr, -, hbuild⟩ := mem_dotFront.mp h
  have hn : lx.toNat / 2 ^ 2 % 2 ^ 6 = n.toNat :=
    (Machine.extract_toNat lx 2 6).symm.trans (congrArg BitVec.toNat (hrows r hr hbuild))
  have h0 : lx.toNat / 1 % 2 = 1 := bit_of_mem_dotFront h rfl 0 (by decide)
  have h1 : lx.toNat / 2 % 2 = 1 := bit_of_mem_dotFront h rfl 1 (by decide)
  have h8 : lx.toNat / 256 % 2 = 0 := bit_of_mem_dotFront h rfl 8 (by decide)
  have := lx.isLt
  omega

theorem isRenderingLine_of_classIn_vp {ly : Dot} : classIn .vp (lineClass ly) = isRenderingLine ly := by
  unfold isRenderingLine
  cases lineClass ly <;> rfl

/-- The banks are written on rendering lines only (R117). -/
theorem isRenderingLine_of_mem_dotFront {i : Instr} {ly lx : Dot} (hi : i = .prefill ∨ ∃ n, i = .eval n)
    (h : i ∈ dotFront ly lx) : isRenderingLine ly = true := by
  have hrows : ∀ r ∈ dotTable.dropLast, r.build lx = .prefill ∨ (∃ n, r.build lx = .eval n) → r.classes = .vp := by
    simp [dotTable, dotRowsLineStart, dotRowsTransfer, dotRowsFetch, dotRowsPicture]
  obtain ⟨r, hr, hsel, rfl⟩ := mem_dotFront.mp h
  have hclass := classIn_of_dotSelects hsel
  rwa [hrows r hr hi, isRenderingLine_of_classIn_vp] at hclass

/-- The row of PREFILL (R117). -/
def prefillRow : DotRow :=
  { classes := .vp, line := none, mask := 0x1FF#9, pattern := 0x000#9, build := fun _ => .prefill }

theorem prefill_mem_dotFront {ly : Dot} (h : isRenderingLine ly = true) : .prefill ∈ dotFront ly 0#9 := by
  refine mem_dotFront.mpr ⟨prefillRow, ?row, ?selected, rfl⟩
  case row => simp [dotTable, dotRowsLineStart, dotRowsTransfer, dotRowsFetch, dotRowsPicture, prefillRow]
  case selected => simp [dotSelects, prefillRow, isRenderingLine_of_classIn_vp, h]

namespace Machine

/-! ### Runs -/

/-- What one instruction of a list brings about, where the others keep the ground for it and what it brought about. -/
theorem runAll_establishes {P Q : State → Prop} {i : Instr} {is : List Instr} (hi : i ∈ is)
    (hQ : ∀ j ∈ is, ∀ t t', Q t → exec j t = .next t' → Q t')
    (hest : ∀ t t', Q t → exec i t = .next t' → P t')
    (hP : ∀ j ∈ is, ∀ t t', P t → exec j t = .next t' → P t') {s m : State} (hs : Q s)
    (h : runAll is s = .next m) : P m := by
  obtain ⟨front, back, rfl⟩ := List.append_of_mem hi
  obtain ⟨t, hfront, hrest⟩ := runAll_append_inv h
  obtain ⟨t', hexec, hback⟩ := runAll_cons_inv hrest
  have ht : Q t := runAll_keeps (fun j hj => hQ j (List.mem_append_left _ hj)) hs hfront
  exact runAll_keeps (fun j hj => hP j (List.mem_append_right _ (List.mem_cons_of_mem _ hj))) (hest t t' ht hexec) hback

/-- Nothing before the advance moves the raster position. -/
theorem runAll_dotFront_position {ly lx : Dot} {s m : State} (h : runAll (dotFront ly lx) s = .next m) :
    m.ly = s.ly ∧ m.lx = s.lx := by
  refine runAll_keeps (P := fun t => t.ly = s.ly ∧ t.lx = s.lx) ?step ⟨rfl, rfl⟩ h
  case step =>
    rintro i hi t t' ⟨hly, hlx⟩ hexec
    obtain ⟨hly', hlx'⟩ := exec_position (fun hadv => advance_not_mem_dotFront ly lx (hadv ▸ hi)) hexec
    exact ⟨hly'.trans hly, hlx'.trans hlx⟩

/-! ### The part of the state the sprite invariants speak of -/

/-- The state with everything but the position, the banks, the count and the sprite-zero flag blanked. -/
def State.spritePart (s : State) : State :=
  { State.reset with ly := s.ly, lx := s.lx, spr0hit := s.spr0hit, sec := s.sec, spr := s.spr, secCount := s.secCount }

/-- The micro-operations that write an item of the sprite part. -/
def writesSprites : Instr → Bool
  | .ls261 | .prefill | .pixel _ | .eval _ | .bankcopy | .splf _ | .sphf _ | .advance => true
  | _ => false

theorem fetch_spritePart (a : VAddr) (s : State) : (fetch a s).2.spritePart = s.spritePart := by
  rw [fetch_state]
  rfl

theorem setVIfRendering_spritePart (v : VReg) (s : State) : (setVIfRendering v s).spritePart = s.spritePart := by
  obtain ⟨-, h⟩ | ⟨-, h⟩ := setVIfRendering_cases v s <;> rw [h]
  rfl

/-- A transaction leaves the sprite part, which is on the raster agent's side. -/
theorem transaction_spritePart {i : Instr} {s s' : State} (hi : isTransaction i = true) (h : exec i s = .next s') :
    s'.spritePart = s.spritePart := by
  have hpart := congrArg State.spritePart (exec_rasterSide hi h)
  exact hpart

/-- Every other instruction leaves the sprite part alone. -/
theorem exec_spritePart {i : Instr} {s s' : State} (hi : writesSprites i = false) (h : exec i s = .next s') :
    s'.spritePart = s.spritePart := by
  cases i
  case ls261 | prefill | pixel | eval | bankcopy | splf | sphf | advance => cases hi
  case ntf | atf | plf | phf | pntf | patf | pplf | pphf | sntf | satf | idlef1 | idlef2 =>
    cases h
    exact fetch_spritePart _ s
  case incx | pincx | incy | copyh | copyv =>
    cases h
    exact setVIfRendering_spritePart _ s
  case syncchk =>
    simp only [exec, execSyncchk] at h
    split at h <;> cases h <;> rfl
  case ls241 | reload | preload =>
    cases h
    rfl
  all_goals exact transaction_spritePart rfl h

/-- A property of the sprite part that a dot step keeps is kept by every step, if it holds after reset. -/
theorem step_keeps_of_spritePart {P : State → Prop} (hpart : ∀ t, P t.spritePart ↔ P t) (hreset : P State.reset)
    {s s' : State} (hdot : ∀ t m, runAll (dotFront s.ly s.lx) s = .next t → exec .advance t = .next m → P m)
    (hs : P s) (h : step s = .next s') : P s' := by
  obtain ⟨word, rest, -, hexec⟩ | ⟨rest, -, rfl⟩ | ⟨m, -, hrun, rfl⟩ := step_cases h
  · have hside : s'.spritePart = s.spritePart :=
      transaction_spritePart (s := { s with gap := rest }) (isTransaction_decodePort s.w word) hexec
    exact (hpart s').mp (hside ▸ (hpart s).mpr hs)
  · have hside : (resetEvent { s with gap := rest }).spritePart = State.reset.spritePart := rfl
    exact (hpart _).mp (hside ▸ (hpart State.reset).mpr hreset)
  · obtain ⟨t, hfront, hadvance⟩ := runAll_decodeDot_inv hrun
    have hside : (openGap m).spritePart = m.spritePart := rfl
    exact (hpart _).mp (hside ▸ (hpart m).mpr (hdot t m hfront hadvance))

end Machine

end Sys2Proof
end

section
/-! R215: the evaluation bank stays in slot order. What a dot step does to the bank, and that appending the sprite whose dot
it is keeps the order. -/

namespace Sys2Proof

/-! ### The one EVAL of a position -/

/-- The micro-operations that rows of the table give at a position. -/
def selectedOf (rows : List DotRow) (ly lx : Dot) : List Instr :=
  (rows.filter (fun r => dotSelects r ly lx)).map (fun r => r.build lx)

/-- The rows executed before EVAL's (R231 steps 1 to 2c). -/
def rowsBeforeEval : List DotRow := dotRowsLineStart ++ dotRowsTransfer ++ dotRowsFetch ++ [pixelRow]

/-- The rows executed after EVAL's and before the advance (R231 step 2e). -/
def rowsAfterEval : List DotRow := (dotRowsPicture.drop 2).dropLast

theorem dotFront_eq_around_eval (ly lx : Dot) :
    dotFront ly lx =
      selectedOf rowsBeforeEval ly lx ++ (selectedOf [evalRow] ly lx ++ selectedOf rowsAfterEval ly lx) := by
  have htable : dotTable.dropLast = rowsBeforeEval ++ ([evalRow] ++ rowsAfterEval) := rfl
  rw [dotFront, htable, List.filter_append, List.filter_append, List.map_append, List.map_append]
  rfl

theorem mem_selectedOf {i : Instr} {rows : List DotRow} {ly lx : Dot} :
    i ∈ selectedOf rows ly lx ↔ ∃ r ∈ rows, dotSelects r ly lx = true ∧ r.build lx = i := by
  simp [selectedOf, and_assoc]

/-- What no row builds is not selected. -/
theorem not_mem_selectedOf {i : Instr} {rows : List DotRow} {ly lx : Dot} (hrows : ∀ r ∈ rows, r.build lx ≠ i) :
    i ∉ selectedOf rows ly lx := by
  rw [mem_selectedOf]
  rintro ⟨r, hr, -, hbuild⟩
  exact hrows r hr hbuild

theorem eval_not_mem_before (n : BitVec 6) (ly lx : Dot) : .eval n ∉ selectedOf rowsBeforeEval ly lx :=
  not_mem_selectedOf (by simp [rowsBeforeEval, dotRowsLineStart, dotRowsTransfer, dotRowsFetch, pixelRow])

theorem eval_not_mem_after (n : BitVec 6) (ly lx : Dot) : .eval n ∉ selectedOf rowsAfterEval ly lx :=
  not_mem_selectedOf (by simp [rowsAfterEval, dotRowsPicture])

namespace Machine

/-! ### What a dot step does to the bank -/

/-- The evaluation bank with its count of filled slots. -/
structure EvalBank where
  sec : SpriteBank
  count : BitVec 4

def State.evalBank (s : State) : EvalBank := { sec := s.sec, count := s.secCount }

/-- What PREFILL leaves (R211). -/
def EvalBank.empty : EvalBank := { sec := sentinelBank, count := 0#4 }

/-- One more slot filled (R213). -/
def EvalBank.append (b : EvalBank) (e : SpriteEntry) : EvalBank :=
  { sec := b.sec.setIfInBounds b.count.toNat e, count := b.count + 1#4 }

theorem exec_evalBank {i : Instr} {s s' : State} (hprefill : i ≠ .prefill) (heval : ∀ n, i ≠ .eval n)
    (h : exec i s = .next s') : s'.evalBank = s.evalBank := by
  cases i
  case prefill => exact absurd rfl hprefill
  case eval n => exact absurd rfl (heval n)
  case ls261 | pixel | bankcopy =>
    cases h
    rfl
  case splf | sphf =>
    cases h
    simp only [State.evalBank, fetch_sec, fetch_secCount]
  case advance => obtain ⟨-, rfl⟩ | ⟨-, -, rfl⟩ | ⟨-, -, rfl⟩ := advance_cases h <;> rfl
  all_goals
    have hpart := congrArg State.evalBank (exec_spritePart rfl h)
    exact hpart

/-- R213: an EVAL leaves the bank or appends an entry with its number to it, if a slot is free. -/
theorem eval_evalBank {n : BitVec 6} {s s' : State} (h : exec (.eval n) s = .next s') :
    s'.evalBank = s.evalBank ∨
    (s.evalBank.count ≠ 8#4 ∧ ∃ e, e.id = n.setWidth 7 ∧ s'.evalBank = s.evalBank.append e) := by
  obtain h' | ⟨-, h'⟩ | ⟨hfree, -, -, h'⟩ := execEval_cases n s <;> cases h'.symm.trans h
  · exact .inl rfl
  · exact .inl rfl
  · exact .inr ⟨hfree, evalEntry n s, rfl, rfl⟩

/-- A list without PREFILL and EVAL leaves the bank alone. -/
theorem runAll_evalBank {is : List Instr} {s m : State} (hprefill : .prefill ∉ is) (heval : ∀ n, .eval n ∉ is)
    (h : runAll is s = .next m) : m.evalBank = s.evalBank := by
  refine runAll_keeps (P := fun t => t.evalBank = s.evalBank) ?step rfl h
  case step =>
    intro i hi t t' ht hexec
    exact (exec_evalBank (fun hp => hprefill (hp ▸ hi)) (fun n hn => heval n (hn ▸ hi)) hexec).trans ht

/-- R211: the first dot of a rendering line leaves the bank empty. -/
theorem runAll_dotFront_evalBank_first {s m : State} (hline : isRenderingLine s.ly = true) (hlx : s.lx = 0#9)
    (h : runAll (dotFront s.ly s.lx) s = .next m) : m.evalBank = .empty := by
  refine runAll_establishes (P := fun t => t.evalBank = .empty) (Q := fun _ => True)
    (hlx ▸ prefill_mem_dotFront hline) (fun _ _ _ _ _ _ => trivial) ?prefill ?others trivial h
  case prefill =>
    intro t t' _ hexec
    cases hexec
    rfl
  case others =>
    intro i hi t t' ht hexec
    by_cases hp : i = .prefill
    · subst hp
      cases hexec
      rfl
    · have heval : ∀ n, i ≠ .eval n := by
        rintro n rfl
        have := lx_of_eval_mem_dotFront hi
        bv_omega
      exact (exec_evalBank hp heval hexec).trans ht

/-- R210, R213: elsewhere a position leaves the bank, or appends the sprite whose dot it is. -/
theorem runAll_dotFront_evalBank {s m : State} (hprefill : .prefill ∉ dotFront s.ly s.lx)
    (h : runAll (dotFront s.ly s.lx) s = .next m) :
    m.evalBank = s.evalBank ∨
    ∃ (n : BitVec 6) (e : SpriteEntry), isRenderingLine s.ly = true ∧ s.lx.toNat = 4 * n.toNat + 3 ∧
      s.evalBank.count ≠ 8#4 ∧ e.id = n.setWidth 7 ∧ m.evalBank = s.evalBank.append e := by
  rw [dotFront_eq_around_eval, List.mem_append, List.mem_append, not_or, not_or] at hprefill
  obtain ⟨hpbefore, -, hpafter⟩ := hprefill
  have hsplit := dotFront_eq_around_eval s.ly s.lx
  rw [hsplit] at h
  obtain ⟨t, hbefore, hrest⟩ := runAll_append_inv h
  obtain ⟨u, hat, hafter⟩ := runAll_append_inv hrest
  have ht := runAll_evalBank hpbefore (fun n => eval_not_mem_before n _ _) hbefore
  have hm := runAll_evalBank hpafter (fun n => eval_not_mem_after n _ _) hafter
  cases hsel : dotSelects evalRow s.ly s.lx with
  | false =>
    rw [selectedOf, List.filter_singleton, hsel] at hat
    cases hat
    exact .inl (hm.trans ht)
  | true =>
    rw [selectedOf, List.filter_singleton, hsel] at hat
    obtain ⟨u', heval, hnil⟩ := runAll_cons_inv hat
    cases hnil
    have hmem : .eval (s.lx.extractLsb' 2 6) ∈ dotFront s.ly s.lx := by
      rw [hsplit, List.mem_append, List.mem_append]
      exact .inr (.inl (mem_selectedOf.mpr ⟨evalRow, List.mem_singleton_self _, hsel, rfl⟩))
    obtain hkept | ⟨hfree, e, hid, hnew⟩ := eval_evalBank heval
    · exact .inl (hm.trans (hkept.trans ht))
    · refine .inr ⟨_, e, isRenderingLine_of_mem_dotFront (.inr ⟨_, rfl⟩) hmem, lx_of_eval_mem_dotFront hmem,
        ht ▸ hfree, hid, ?_⟩
      rw [hm, hnew, ht]

/-! ### The order of the slots -/

/-- R215: the filled slots hold rising numbers below 64. -/
abbrev EvalBank.Rising (b : EvalBank) : Prop :=
  b.count.toNat ≤ 8 ∧
  (∀ i j : Fin 8, i < j → j.val < b.count.toNat → (b.sec[i]).id.toNat < (b.sec[j]).id.toNat) ∧
  (∀ i : Fin 8, i.val < b.count.toNat → (b.sec[i]).id.toNat < 64)

/-- Every filled slot's sprite had its dot before dot `k`, and the others hold the sentinel. -/
abbrev EvalBank.FilledBefore (b : EvalBank) (k : Nat) : Prop :=
  (∀ i : Fin 8, i.val < b.count.toNat → 4 * (b.sec[i]).id.toNat + 3 < k) ∧
  (∀ i : Fin 8, b.count.toNat ≤ i.val → b.sec[i] = SpriteEntry.sentinel)

theorem bankOrdered_iff (s : State) :
    s.BankOrdered ↔
      s.evalBank.Rising ∧ (isRenderingLine s.ly = true → 0 < s.lx.toNat → s.evalBank.FilledBefore s.lx.toNat) :=
  ⟨fun ⟨hcount, hrise, hid, hfilled⟩ => ⟨⟨hcount, hrise, hid⟩, hfilled⟩,
    fun ⟨⟨hcount, hrise, hid⟩, hfilled⟩ => ⟨hcount, hrise, hid, hfilled⟩⟩

theorem EvalBank.FilledBefore.mono {b : EvalBank} {k k' : Nat} (h : b.FilledBefore k) (hk : k ≤ k') :
    b.FilledBefore k' :=
  ⟨fun i hi => (h.1 i hi).trans_le hk, h.2⟩

theorem EvalBank.empty_rising : EvalBank.empty.Rising :=
  ⟨Nat.zero_le 8, fun _ _ _ h => absurd h (Nat.not_lt_zero _), fun _ h => absurd h (Nat.not_lt_zero _)⟩

theorem EvalBank.empty_filledBefore (k : Nat) : EvalBank.empty.FilledBefore k :=
  ⟨fun _ h => absurd h (Nat.not_lt_zero _), fun i _ => sentinelBank_getElem i⟩

theorem EvalBank.append_getElem (b : EvalBank) (e : SpriteEntry) (i : Fin 8) :
    (b.append e).sec[i] = if b.count.toNat = i.val then e else b.sec[i] :=
  Vector.getElem_setIfInBounds i.isLt

theorem EvalBank.append_count {b : EvalBank} (hcount : b.count.toNat ≤ 8) (hfree : b.count ≠ 8#4) (e : SpriteEntry) :
    (b.append e).count.toNat = b.count.toNat + 1 := by
  have hne : b.count.toNat ≠ 8 := fun h => hfree (BitVec.eq_of_toNat_eq h)
  exact (BitVec.toNat_add b.count 1#4).trans (Nat.mod_eq_of_lt (show b.count.toNat + 1 < 16 by omega))

section

variable {b : EvalBank} {e : SpriteEntry} {n : Nat}

/-- The appended sprite has a higher number than all before it, since their dots have passed. -/
theorem EvalBank.append_rising (hb : b.Rising) (hbefore : b.FilledBefore (4 * n + 3)) (hfree : b.count ≠ 8#4)
    (hid : e.id.toNat = n) (hn : n < 64) : (b.append e).Rising := by
  obtain ⟨hcount, hrise, hsprite⟩ := hb
  have hcount' := append_count hcount hfree e
  have hne : b.count.toNat ≠ 8 := fun h => hfree (BitVec.eq_of_toNat_eq h)
  refine ⟨by omega, fun i j hij hj => ?rise, fun i hi => ?below⟩
  case rise =>
    have hlt : i.val < j.val := hij
    rw [append_getElem, append_getElem, if_neg (by omega)]
    split
    · have := hbefore.1 i (by omega)
      omega
    · exact hrise i j hij (by omega)
  case below =>
    rw [append_getElem]
    split
    · omega
    · exact hsprite i (by omega)

theorem EvalBank.append_filledBefore (hcount : b.count.toNat ≤ 8) (hbefore : b.FilledBefore (4 * n + 3))
    (hfree : b.count ≠ 8#4) (hid : e.id.toNat = n) : (b.append e).FilledBefore (4 * n + 4) := by
  obtain ⟨hfilled, hrest⟩ := hbefore
  have hcount' := append_count hcount hfree e
  refine ⟨fun i hi => ?filled, fun i hi => ?rest⟩
  case filled =>
    rw [append_getElem]
    split
    · omega
    · have := hfilled i (by omega)
      omega
  case rest =>
    rw [append_getElem, if_neg (by omega)]
    exact hrest i (by omega)

end

/-! ### The steps -/

/-- Before its advance a position has the bank ordered up to and including its own dot. -/
theorem runAll_dotFront_ordered {s m : State} (hs : s.BankOrdered) (h : runAll (dotFront s.ly s.lx) s = .next m) :
    m.evalBank.Rising ∧ (isRenderingLine s.ly = true → m.evalBank.FilledBefore (s.lx.toNat + 1)) := by
  obtain ⟨hrise, hfilled⟩ := (bankOrdered_iff s).mp hs
  by_cases hfirst : isRenderingLine s.ly = true ∧ s.lx = 0#9
  · rw [runAll_dotFront_evalBank_first hfirst.1 hfirst.2 h]
    exact ⟨EvalBank.empty_rising, fun _ => EvalBank.empty_filledBefore _⟩
  · have hpos : isRenderingLine s.ly = true → 0 < s.lx.toNat := fun hline =>
      Nat.pos_of_ne_zero fun hlx => hfirst ⟨hline, BitVec.eq_of_toNat_eq hlx⟩
    have hprefill : .prefill ∉ dotFront s.ly s.lx := fun hmem =>
      (hpos (isRenderingLine_of_mem_dotFront (.inl rfl) hmem)).ne' (lx_of_prefill_mem_dotFront hmem)
    obtain hkept | ⟨n, e, hline, hlx, hfree, hid, hnew⟩ := runAll_dotFront_evalBank hprefill h
    · rw [hkept]
      exact ⟨hrise, fun hline => (hfilled hline (hpos hline)).mono (Nat.le_succ _)⟩
    · have hn := n.isLt
      have hid' : e.id.toNat = n.toNat := by
        rw [hid, BitVec.toNat_setWidth_of_le (by decide)]
      have hbefore := hfilled hline (hpos hline)
      rw [hlx] at hbefore
      rw [hnew, hlx]
      exact ⟨EvalBank.append_rising hrise hbefore hfree hid' hn,
        fun _ => EvalBank.append_filledBefore hrise.1 hbefore hfree hid'⟩

/-- The advance leaves the bank and passes the dot, or begins a line. -/
theorem advance_bankOrdered {s s' : State} (hrise : s.evalBank.Rising)
    (hfilled : isRenderingLine s.ly = true → s.evalBank.FilledBefore (s.lx.toNat + 1))
    (h : exec .advance s = .next s') : s'.BankOrdered := by
  rw [bankOrdered_iff]
  obtain ⟨-, rfl⟩ | ⟨-, -, rfl⟩ | ⟨-, -, rfl⟩ := advance_cases h
  · refine ⟨hrise, fun hline (hpos : 0 < (s.lx + 1#9).toNat) => ?_⟩
    have hlx : (s.lx + 1#9).toNat = s.lx.toNat + 1 := by bv_omega
    have := hfilled hline
    rw [← hlx] at this
    exact this
  · exact ⟨hrise, fun _ hpos => absurd hpos (Nat.lt_irrefl 0)⟩
  · exact ⟨hrise, fun _ hpos => absurd hpos (Nat.lt_irrefl 0)⟩

/-- Settles O51: `runAll_dotFront_ordered` up to the advance, then `advance_bankOrdered`. -/
theorem everyStepKeepsTheSlotOrder : Obligations.EveryStepKeepsTheSlotOrder := by
  unfold Obligations.EveryStepKeepsTheSlotOrder
  intro s s' hs h
  refine step_keeps_of_spritePart (P := State.BankOrdered) (fun _ => Iff.rfl) reset_bankOrdered ?dot hs h
  case dot =>
    intro t m hfront hadvance
    obtain ⟨hly, hlx⟩ := runAll_dotFront_position hfront
    obtain ⟨hrise, hfilled⟩ := runAll_dotFront_ordered hs hfront
    rw [← hly, ← hlx] at hfilled
    exact advance_bankOrdered hrise hfilled hadvance

end Machine

end Sys2Proof
end

section
/-! R217 and R316 (7): scanline 0 shows no sprite. What a dot step does to the output bank and the sprite-zero flag on the
pre-render line, where no sprite is found and the bank copied is empty, and on scanline 0, where the output bank is blank. -/

namespace Sys2Proof.Machine

/-! ### The instructions that write the flag or the output bank -/

/-- Only a pixel raises sprite-zero hit (R310, R241). -/
theorem exec_spr0hit {i : Instr} {s s' : State} (hpixel : ∀ col, i ≠ .pixel col) (hs : s.spr0hit = false)
    (h : exec i s = .next s') : s'.spr0hit = false := by
  cases i
  case pixel col => exact absurd rfl (hpixel col)
  case ls261 =>
    cases h
    rfl
  case prefill | bankcopy =>
    cases h
    exact hs
  case splf | sphf =>
    cases h
    exact (fetch_spr0hit _ s).trans hs
  case eval n => obtain h' | ⟨-, h'⟩ | ⟨-, -, -, h'⟩ := execEval_cases n s <;> cases h'.symm.trans h <;> exact hs
  case advance => obtain ⟨-, rfl⟩ | ⟨-, -, rfl⟩ | ⟨-, -, rfl⟩ := advance_cases h <;> exact hs
  all_goals exact (congrArg State.spr0hit (exec_spritePart rfl h)).trans hs

/-- Only BANKCOPY and the sprite fetches write the output bank (R216, R296, R297). -/
theorem exec_spr {i : Instr} {s s' : State} (hcopy : i ≠ .bankcopy) (hsplf : ∀ slot, i ≠ .splf slot)
    (hsphf : ∀ slot, i ≠ .sphf slot) (h : exec i s = .next s') : s'.spr = s.spr := by
  cases i
  case bankcopy => exact absurd rfl hcopy
  case splf slot => exact absurd rfl (hsplf slot)
  case sphf slot => exact absurd rfl (hsphf slot)
  case ls261 | prefill | pixel =>
    cases h
    rfl
  case eval n => obtain h' | ⟨-, h'⟩ | ⟨-, -, -, h'⟩ := execEval_cases n s <;> cases h'.symm.trans h <;> rfl
  case advance => obtain ⟨-, rfl⟩ | ⟨-, -, rfl⟩ | ⟨-, -, rfl⟩ := advance_cases h <;> rfl
  all_goals
    have hpart := congrArg State.spr (exec_spritePart rfl h)
    exact hpart

/-- A slot's entry replaced by one with the same number. -/
theorem set_getElem_id {bank : SpriteBank} {slot : Nat} {hslot : slot < 8} {e : SpriteEntry} (he : e.id = bank[slot].id)
    (i : Fin 8) : ((bank.set slot e hslot)[i]).id = (bank[i]).id := by
  rw [Fin.getElem_fin, Vector.getElem_set]
  split
  · subst slot
    exact he
  · rfl

/-- A sprite fetch fills the planes of a slot, so only BANKCOPY changes a number in the output bank. -/
theorem exec_spr_id {i : Instr} {s s' : State} (hcopy : i ≠ .bankcopy) (h : exec i s = .next s') (k : Fin 8) :
    (s'.spr[k]).id = (s.spr[k]).id := by
  cases i
  case splf slot | sphf slot =>
    cases h
    refine set_getElem_id (hslot := slot.isLt) ?_ k
    rfl
  all_goals rw [exec_spr hcopy (fun _ => Instr.noConfusion) (fun _ => Instr.noConfusion) h]

/-! ### Blank entries -/

theorem spritePattern_blank {e : SpriteEntry} (h : e.Blank) (col : Byte) : spritePattern e col = 0#2 := by
  obtain hid | ⟨hlo, hhi⟩ := h
  · simp [spritePattern, hid]
  · simp [spritePattern, planeBits, hlo, hhi]

/-- R314: a scan over blank entries finds no pixel. -/
theorem foldr_sprScanStep_blank {entries : List SpriteEntry} (h : ∀ e ∈ entries, e.Blank) (col : Byte) :
    entries.foldr (sprScanStep col) SpritePixel.none = SpritePixel.none := by
  induction entries with
  | nil => rfl
  | cons e entries ih =>
    obtain ⟨he, hrest⟩ := List.forall_mem_cons.mp h
    rw [List.foldr_cons, ih hrest]
    exact if_pos (spritePattern_blank he col)

theorem sprPixel_blank {s : State} (h : ∀ i : Fin 8, SpriteEntry.Blank s.spr[i]) (col : Byte) :
    sprPixel s col = SpritePixel.none := by
  have hall : ∀ e ∈ s.spr.toList, e.Blank := by
    intro e he
    obtain ⟨i, hi, rfl⟩ := Vector.getElem_of_mem (Vector.mem_toList_iff.mp he)
    exact h ⟨i, hi⟩
  have hscan : sprScan s.spr col = SpritePixel.none := foldr_sprScanStep_blank hall col
  rw [sprPixel, hscan, ite_self]

/-- R316: a pixel over a blank output bank is no sprite-zero hit. -/
theorem pixel_spr0hit_blank {col : BitVec 8} {s s' : State} (hblank : ∀ i : Fin 8, SpriteEntry.Blank s.spr[i])
    (hs : s.spr0hit = false) (h : exec (.pixel col) s = .next s') : s'.spr0hit = false := by
  cases h
  simp [sprPixel_blank hblank, SpritePixel.none, zeroHits, hs]

/-! ### The pre-render line -/

theorem eq_sentinelBank {bank : SpriteBank} (h : ∀ i : Fin 8, bank[i] = SpriteEntry.sentinel) : bank = sentinelBank := by
  ext1 i hi
  exact (h ⟨i, hi⟩).trans (sentinelBank_getElem ⟨i, hi⟩).symm

/-- No sprite was found on the pre-render line. -/
def State.PreRenderEmpty (s : State) : Prop := s.ly = 261#9 ∧ s.sec = sentinelBank

/-- No sprite was found, and the output bank holds none. -/
def State.PreRenderBlank (s : State) : Prop := s.PreRenderEmpty ∧ ∀ i : Fin 8, (s.spr[i]).id = 64#7

/-- R212: on the pre-render line no EVAL appends. -/
theorem exec_preRenderEmpty {i : Instr} {s s' : State} (hi : i ≠ .advance) (hs : s.PreRenderEmpty)
    (h : exec i s = .next s') : s'.PreRenderEmpty := by
  obtain ⟨hly, hsec⟩ := hs
  refine ⟨(exec_position hi h).1.trans hly, ?sec⟩
  cases i
  case prefill =>
    cases h
    rfl
  case eval n =>
    have hm : s.matchesSprite n = false := by
      rw [State.matchesSprite, hly, spriteMatches_preRender]
    cases (exec_eval_noMatch hm).symm.trans h
    exact hsec
  all_goals exact (congrArg EvalBank.sec (exec_evalBank Instr.noConfusion (fun _ => Instr.noConfusion) h)).trans hsec

/-- R216: what BANKCOPY copies there are sentinels. -/
theorem bankcopy_preRenderBlank {s s' : State} (hs : s.PreRenderEmpty) (h : exec .bankcopy s = .next s') :
    s'.PreRenderBlank := by
  refine ⟨exec_preRenderEmpty Instr.noConfusion hs h, fun i => ?id⟩
  cases h
  show (s.sec[i]).id = 64#7
  rw [hs.2, sentinelBank_getElem]
  rfl

theorem exec_preRenderBlank {i : Instr} {s s' : State} (hi : i ≠ .advance) (hs : s.PreRenderBlank)
    (h : exec i s = .next s') : s'.PreRenderBlank := by
  obtain ⟨hempty, hid⟩ := hs
  by_cases hcopy : i = .bankcopy
  · exact bankcopy_preRenderBlank hempty (hcopy ▸ h)
  · exact ⟨exec_preRenderEmpty hi hempty h, fun k => (exec_spr_id hcopy h k).trans (hid k)⟩

section

variable {s m : State} (hly : s.ly = 261#9) (hs : s.NoSpriteOnLineZero) (h : runAll (dotFront s.ly s.lx) s = .next m)

include hly hs h

/-- R241: LS261 clears the flag, and the line has no pixel that could raise it. -/
theorem runAll_preRender_spr0hit : m.spr0hit = false := by
  have hkeep : ∀ i ∈ dotFront s.ly s.lx, ∀ t t' : State, t.spr0hit = false → exec i t = .next t' → t'.spr0hit = false := by
    intro i hi t t' ht hexec
    refine exec_spr0hit ?_ ht hexec
    rintro col rfl
    have := line_le_of_pixel_mem_dotFront hi
    rw [hly] at this
    exact absurd this (by decide)
  by_cases hlx : s.lx = 0#9
  · have hmem : .ls261 ∈ dotFront s.ly s.lx := by
      rw [hly, hlx]
      decide
    refine runAll_establishes (Q := fun _ => True) hmem (fun _ _ _ _ _ _ => trivial) ?clear hkeep trivial h
    case clear =>
      intro t t' _ hexec
      cases hexec
      rfl
  · exact runAll_keeps hkeep (hs.1 hly (by bv_omega)).1 h

/-- R211, R212: the bank is empty from the line's first dot on. -/
theorem runAll_preRender_empty : m.PreRenderEmpty := by
  by_cases hlx : s.lx = 0#9
  · have hline : isRenderingLine s.ly = true := by
      rw [hly]
      decide
    have hbank := runAll_dotFront_evalBank_first hline hlx h
    exact ⟨(runAll_dotFront_position h).1.trans hly, congrArg EvalBank.sec hbank⟩
  · have hsec := (hs.1 hly (by bv_omega)).2
    refine runAll_keeps (P := State.PreRenderEmpty) (fun i hi t t' ht hexec => ?_) ⟨hly, eq_sentinelBank hsec⟩ h
    exact exec_preRenderEmpty (fun hadv => advance_not_mem_dotFront _ _ (hadv ▸ hi)) ht hexec

/-- R216: from BANKCOPY's dot on the output bank holds no sprite. -/
theorem runAll_preRender_blank (hlx : 256 ≤ s.lx.toNat) : m.PreRenderBlank := by
  have hne : ∀ i ∈ dotFront s.ly s.lx, i ≠ .advance := fun i hi hadv => advance_not_mem_dotFront _ _ (hadv ▸ hi)
  have hempty : s.PreRenderEmpty := ⟨hly, eq_sentinelBank (hs.1 hly (by omega)).2⟩
  have hkeep : ∀ i ∈ dotFront s.ly s.lx, ∀ t t' : State, t.PreRenderBlank → exec i t = .next t' → t'.PreRenderBlank :=
    fun i hi _ _ ht hexec => exec_preRenderBlank (hne i hi) ht hexec
  by_cases hcopy : s.lx = 256#9
  · have hmem : .bankcopy ∈ dotFront s.ly s.lx := by
      rw [hly, hcopy]
      decide
    exact runAll_establishes hmem (fun i hi _ _ ht hexec => exec_preRenderEmpty (hne i hi) ht hexec)
      (fun _ _ => bankcopy_preRenderBlank) hkeep hempty h
  · exact runAll_keeps hkeep ⟨hempty, hs.2.1 hly (by bv_omega)⟩ h

end

/-! ### Scanline 0 -/

/-- No hit stands and the output bank shows nothing. -/
def State.ShowsNoSprite (s : State) : Prop := s.spr0hit = false ∧ ∀ i : Fin 8, SpriteEntry.Blank s.spr[i]

/-- In the first half of a line nothing writes the output bank, and over a blank one a pixel is no hit. -/
theorem runAll_firstHalf_showsNoSprite {ly lx : Dot} {s m : State} (hlx : lx.toNat < 256) (hs : s.ShowsNoSprite)
    (h : runAll (dotFront ly lx) s = .next m) : m.ShowsNoSprite := by
  refine runAll_keeps (P := State.ShowsNoSprite) ?step hs h
  case step =>
    rintro i hi t t' ⟨hhit, hblank⟩ hexec
    have hspr : t'.spr = t.spr := by
      refine exec_spr ?_ ?_ ?_ hexec
      · rintro rfl
        have := lx_of_bankcopy_mem_dotFront hi
        omega
      · rintro slot rfl
        have := lx_of_splf_mem_dotFront hi
        omega
      · rintro slot rfl
        have := lx_of_sphf_mem_dotFront hi
        omega
    refine ⟨?hit, hspr ▸ hblank⟩
    by_cases hpixel : ∃ col, i = .pixel col
    · obtain ⟨col, rfl⟩ := hpixel
      exact pixel_spr0hit_blank hblank hhit hexec
    · exact exec_spr0hit (fun col hcol => hpixel ⟨col, hcol⟩) hhit hexec

/-- In the second half of a line there is no pixel. -/
theorem runAll_secondHalf_spr0hit {ly lx : Dot} {s m : State} (hlx : 256 ≤ lx.toNat) (hs : s.spr0hit = false)
    (h : runAll (dotFront ly lx) s = .next m) : m.spr0hit = false := by
  refine runAll_keeps (P := fun t => t.spr0hit = false) ?step hs h
  case step =>
    intro i hi t t' ht hexec
    refine exec_spr0hit ?_ ht hexec
    rintro col rfl
    have := lx_of_pixel_mem_dotFront hi
    omega

/-! ### The steps -/

/-- What the micro-operations of a position leave to its advance. -/
structure State.NoSpriteBeforeAdvance (s : State) : Prop where
  preRenderHit : s.ly = 261#9 → s.spr0hit = false
  preRenderEmpty : s.ly = 261#9 → s.PreRenderEmpty
  preRenderBlank : s.ly = 261#9 → 256 ≤ s.lx.toNat → s.PreRenderBlank
  zeroHit : s.ly = 0#9 → s.spr0hit = false
  zeroBlank : s.ly = 0#9 → s.lx.toNat < 256 → s.ShowsNoSprite

theorem runAll_dotFront_noSprite {s m : State} (hs : s.NoSpriteOnLineZero)
    (h : runAll (dotFront s.ly s.lx) s = .next m) : m.NoSpriteBeforeAdvance := by
  obtain ⟨hly, hlx⟩ := runAll_dotFront_position h
  have ⟨_, _, hhit, hblank⟩ := hs
  have hfirst : m.ly = 0#9 → m.lx.toNat < 256 → m.ShowsNoSprite := by
    intro hline hlt
    rw [hly] at hline
    rw [hlx] at hlt
    exact runAll_firstHalf_showsNoSprite hlt ⟨hhit hline, hblank hline hlt.le⟩ h
  refine ⟨fun hline => ?_, fun hline => ?_, fun hline hge => ?_, fun hline => ?_, hfirst⟩
  · exact runAll_preRender_spr0hit (hly ▸ hline) hs h
  · exact runAll_preRender_empty (hly ▸ hline) hs h
  · exact runAll_preRender_blank (hly ▸ hline) hs h (hlx ▸ hge)
  · by_cases hlt : m.lx.toNat < 256
    · exact (hfirst hline hlt).1
    · exact runAll_secondHalf_spr0hit (by rw [← hlx]; omega) (hhit (hly ▸ hline)) h

/-- A line ends in its second half (R242, R244). -/
theorem lx_of_endOfLine {s : State} (h : endOfLine s = true) : 256 ≤ s.lx.toNat := by
  rw [endOfLine, Bool.or_eq_true, Bool.and_eq_true, Bool.and_eq_true, Bool.and_eq_true, beq_iff_eq, beq_iff_eq] at h
  obtain hlx | ⟨⟨⟨hlx, -⟩, -⟩, -⟩ := h <;> rw [hlx] <;> decide

/-- The advance takes the promise along the line, and at the end of the pre-render line to scanline 0. -/
theorem advance_noSpriteOnLineZero {s s' : State} (hpos : s.PositionInRange) (hs : s.NoSpriteBeforeAdvance)
    (h : exec .advance s = .next s') : s'.NoSpriteOnLineZero := by
  obtain ⟨hrangeY, hrangeX⟩ := hpos
  obtain ⟨-, rfl⟩ | ⟨-, hlast, rfl⟩ | ⟨hend, hlast, rfl⟩ := advance_cases h
  · have hlx : (s.lx + 1#9).toNat = s.lx.toNat + 1 := by bv_omega
    refine ⟨fun hline _ => ⟨hs.preRenderHit hline, fun i => ?_⟩, fun hline hlt => ?_, hs.zeroHit, fun hline hle => ?_⟩
    · show s.sec[i] = _
      rw [(hs.preRenderEmpty hline).2, sentinelBank_getElem]
    · exact (hs.preRenderBlank hline (by simp only [hlx] at hlt; omega)).2
    · exact (hs.zeroBlank hline (by simp only [hlx] at hle; omega)).2
  · have hne : s.ly + 1#9 ≠ 0#9 := by bv_omega
    exact ⟨fun _ hlt => absurd hlt (Nat.lt_irrefl 0), fun _ hlt => absurd hlt (Nat.not_lt_zero 256),
      fun hline => absurd hline hne, fun hline => absurd hline hne⟩
  · have hly : s.ly = 261#9 := by bv_omega
    obtain ⟨-, hid⟩ := hs.preRenderBlank hly (lx_of_endOfLine hend)
    exact ⟨fun _ hlt => absurd hlt (Nat.lt_irrefl 0), fun _ hlt => absurd hlt (Nat.not_lt_zero 256),
      fun _ => hs.preRenderHit hly, fun _ _ i => .inl (hid i)⟩

/-- Settles O52: `runAll_dotFront_noSprite` up to the advance, then `advance_noSpriteOnLineZero`. -/
theorem scanlineZeroNeverShowsASprite : Obligations.ScanlineZeroNeverShowsASprite := by
  unfold Obligations.ScanlineZeroNeverShowsASprite
  intro s s' hpos hs h
  refine step_keeps_of_spritePart (P := State.NoSpriteOnLineZero) (fun _ => Iff.rfl) reset_noSpriteOnLineZero ?dot hs h
  case dot =>
    intro t m hfront hadvance
    obtain ⟨hly, hlx⟩ := runAll_dotFront_position hfront
    have hpos' : t.PositionInRange := by
      rw [State.PositionInRange, hly, hlx]
      exact hpos
    exact advance_noSpriteOnLineZero hpos' (runAll_dotFront_noSprite hs hfront) hadvance

end Sys2Proof.Machine
end

section
/-! The raster state machine's own instructions (spec/44_raster_state_machine.md R240 to R245, R247): the next state of each,
and the raster position after a dot step. -/

namespace Sys2Proof.Machine

/-! ### Line starts -/

theorem exec_ls241 (s : State) :
    exec .ls241 s = .next { s with
      vblank := true, irqLine := s.nmiEnable, log := .irqSet s.nmiEnable :: s.log } := rfl

theorem exec_ls261 (s : State) :
    exec .ls261 s = .next { s with
      vblank := false, irqLine := false, spr0hit := false, sprovf := false, log := .irqSet false :: s.log } := rfl

/-- Settles O23, by the meaning of each of the two line starts. -/
theorem lineStartsDriveFlagsAndLine : Obligations.LineStartsDriveFlagsAndLine := by
  unfold Obligations.LineStartsDriveFlagsAndLine
  exact fun s => ⟨exec_ls241 s, exec_ls261 s⟩

/-! ### SYNCCHK -/

theorem exec_syncchk_request {s : State} (h : s.syncRequests.head? = some true) :
    exec .syncchk s = .next { s with syncRequests := s.syncRequests.tail, log := .syncExit :: s.log } := by
  obtain ⟨rest, hreq⟩ := List.head?_eq_some_iff.mp h
  simp only [exec, execSyncchk, hreq]
  rfl

theorem exec_syncchk_noRequest {s : State} (h : s.syncRequests.head? ≠ some true) :
    exec .syncchk s = .next { s with syncRequests := s.syncRequests.tail } := by
  match hreq : s.syncRequests with
  | [] =>
    simp only [exec, execSyncchk, hreq]
    rw [List.tail_nil, ← hreq]
  | false :: rest => simp only [exec, execSyncchk, hreq, List.tail_cons]
  | true :: rest => exact absurd (congrArg List.head? hreq) h

/-- Settles O24: one law where the first answer is a request, one where it is none. -/
theorem syncCheckOnlyCallsOut : Obligations.SyncCheckOnlyCallsOut := by
  unfold Obligations.SyncCheckOnlyCallsOut
  exact fun _ => ⟨exec_syncchk_request, exec_syncchk_noRequest⟩

/-! ### ADVANCE -/

/-- R242, R244: the last dot of a line, with `rendering` written out (R38). -/
theorem endOfLine_iff (s : State) :
    endOfLine s = true ↔
      s.lx = 340#9 ∨ (s.lx = 339#9 ∧ s.ly = 261#9 ∧ s.parity = true ∧ (s.bgEnable = true ∨ s.sprEnable = true)) := by
  simp only [endOfLine, State.rendering, Bool.or_eq_true, Bool.and_eq_true, beq_iff_eq, and_assoc]

/-- The line under way is the last: "increment then check for 262" (R243). -/
theorem succ_line_wraps_iff (ly : Dot) : ly + 1#9 = 262#9 ↔ ly = 261#9 := by
  constructor <;> intro h <;> bv_omega

theorem exec_advance_inside {s : State} (h : endOfLine s = false) :
    exec .advance s = .next { s with clock := s.clock + s.params.clocksPerDot, lx := s.lx + 1#9 } := by
  simp only [exec, execAdvance, h, Bool.false_eq_true, if_false]

theorem exec_advance_nextLine {s : State} (h : endOfLine s = true) (hly : s.ly ≠ 261#9) :
    exec .advance s = .next { s with clock := s.clock + s.params.clocksPerDot, lx := 0#9, ly := s.ly + 1#9 } := by
  simp only [exec, execAdvance, nextLine, h, if_true, succ_line_wraps_iff, hly, if_false]

theorem exec_advance_wrap {s : State} (h : endOfLine s = true) (hly : s.ly = 261#9) :
    exec .advance s = .next { s with
      clock := s.clock + s.params.clocksPerDot, lx := 0#9, ly := 0#9, parity := !s.parity,
      log := .frameEvent :: .frameReady s.fb :: s.log } := by
  simp only [exec, execAdvance, nextLine, h, if_true, succ_line_wraps_iff, hly]
  rfl

/-- Settles O25: one law of the advance for each of its three ends. -/
theorem advanceMovesThePosition : Obligations.AdvanceMovesThePosition := by
  unfold Obligations.AdvanceMovesThePosition
  intro s
  dsimp only
  rw [← endOfLine_iff, Bool.not_eq_true]
  exact ⟨exec_advance_inside, exec_advance_nextLine, exec_advance_wrap⟩

/-! ### The position after a dot step -/

/-- The parity, which the advance alone toggles, and the schedule, which only the opening of a gap shortens. -/
def State.parityAndSchedule (s : State) : Bool × List (List GapAction) := (s.parity, s.schedule)

theorem fetch_parityAndSchedule (a : VAddr) (s : State) : (fetch a s).2.parityAndSchedule = s.parityAndSchedule := by
  rw [fetch_state]
  rfl

theorem setVIfRendering_parityAndSchedule (v : VReg) (s : State) :
    (setVIfRendering v s).parityAndSchedule = s.parityAndSchedule := by
  obtain ⟨-, h⟩ | ⟨-, h⟩ := setVIfRendering_cases v s <;> rw [h]
  rfl

/-- No instruction but the advance toggles the parity (R245), and none touches the schedule. -/
theorem exec_parityAndSchedule {i : Instr} {s s' : State} (hi : i ≠ .advance) (h : exec i s = .next s') :
    s'.parityAndSchedule = s.parityAndSchedule := by
  cases i
  case advance => exact absurd rfl hi
  case ntf | atf | plf | phf | pntf | patf | pplf | pphf | sntf | satf | splf | sphf | idlef1 | idlef2 =>
    cases h
    exact fetch_parityAndSchedule _ s
  case incx | pincx | incy | copyh | copyv =>
    cases h
    exact setVIfRendering_parityAndSchedule _ s
  case syncchk =>
    simp only [exec, execSyncchk] at h
    split at h <;> cases h <;> rfl
  case eval n => obtain h' | ⟨-, h'⟩ | ⟨-, -, -, h'⟩ := execEval_cases n s <;> cases h'.symm.trans h <;> rfl
  case ls241 | ls261 | prefill | pixel | reload | preload | bankcopy =>
    cases h
    rfl
  all_goals
    have hpart := congrArg State.parityAndSchedule (exec_rasterSide rfl h)
    exact hpart

/-- Up to its advance a position leaves what the advance goes by (R242, R244), and the schedule. -/
theorem runAll_dotFront_frame {ly lx : Dot} {s m : State} (h : runAll (dotFront ly lx) s = .next m) :
    m.cpuSide = s.cpuSide ∧ m.parityAndSchedule = s.parityAndSchedule := by
  refine runAll_keeps (P := fun t => t.cpuSide = s.cpuSide ∧ t.parityAndSchedule = s.parityAndSchedule)
    ?step ⟨rfl, rfl⟩ h
  case step =>
    rintro i hi t t' ⟨hside, hpart⟩ hexec
    have hne : i ≠ .advance := fun hadv => advance_not_mem_dotFront ly lx (hadv ▸ hi)
    have hmem : i ∈ decodeDot ly lx := decodeDot_eq_front_advance ly lx ▸ List.mem_append_left _ hi
    exact ⟨(exec_cpuSide (isTransaction_of_mem_decodeDot hmem) hexec).trans hside,
      (exec_parityAndSchedule hne hexec).trans hpart⟩

/-- Where the raster beam is and what decides its way: the position, the parity and whether rendering is enabled. -/
structure Beam where
  ly : Dot
  lx : Dot
  parity : Bool
  rendering : Bool

def State.beam (s : State) : Beam := { ly := s.ly, lx := s.lx, parity := s.parity, rendering := s.rendering }

theorem beam_eq_iff {s : State} {b : Beam} :
    s.beam = b ↔ s.ly = b.ly ∧ s.lx = b.lx ∧ s.parity = b.parity ∧ s.rendering = b.rendering := by
  rw [State.beam, Beam.mk.injEq]

/-- R242, R244: the dot ends its line. -/
def Beam.endsLine (b : Beam) : Bool := b.lx == 340#9 || (b.lx == 339#9 && b.ly == 261#9 && b.parity && b.rendering)

theorem endOfLine_eq_endsLine (s : State) : endOfLine s = s.beam.endsLine := rfl

/-- The beam one dot on (R242 to R245). -/
def Beam.next (b : Beam) : Beam :=
  if b.endsLine then
    if b.ly = 261#9 then { b with ly := 0#9, lx := 0#9, parity := !b.parity } else { b with ly := b.ly + 1#9, lx := 0#9 }
  else { b with lx := b.lx + 1#9 }

theorem Beam.next_inside {b : Beam} (h : b.endsLine = false) : b.next = { b with lx := b.lx + 1#9 } := by
  rw [Beam.next, h, if_neg Bool.false_ne_true]

theorem Beam.next_nextLine {b : Beam} (h : b.endsLine = true) (hly : b.ly ≠ 261#9) :
    b.next = { b with ly := b.ly + 1#9, lx := 0#9 } := by
  rw [Beam.next, if_pos h, if_neg hly]

theorem Beam.next_wrap {b : Beam} (h : b.endsLine = true) (hly : b.ly = 261#9) :
    b.next = { b with ly := 0#9, lx := 0#9, parity := !b.parity } := by
  rw [Beam.next, if_pos h, if_pos hly]

/-- The advance moves the beam, and leaves the CPU and the schedule. -/
theorem advance_beam {s s' : State} (h : exec .advance s = .next s') :
    s'.beam = s.beam.next ∧ s'.cpu = s.cpu ∧ s'.schedule = s.schedule := by
  obtain ⟨hend, rfl⟩ | ⟨hend, hly, rfl⟩ | ⟨hend, hly, rfl⟩ := advance_cases h <;> rw [endOfLine_eq_endsLine] at hend
  · exact ⟨(Beam.next_inside hend).symm, rfl, rfl⟩
  · rw [ne_eq, succ_line_wraps_iff] at hly
    exact ⟨(Beam.next_nextLine hend hly).symm, rfl, rfl⟩
  · rw [succ_line_wraps_iff] at hly
    exact ⟨(Beam.next_wrap hend hly).symm, rfl, rfl⟩

/-- Before its advance a position leaves the beam. -/
theorem runAll_dotFront_beam {ly lx : Dot} {s m : State} (h : runAll (dotFront ly lx) s = .next m) :
    m.beam = s.beam := by
  obtain ⟨hly, hlx⟩ := runAll_dotFront_position h
  obtain ⟨hside, hpart⟩ := runAll_dotFront_frame h
  have hparity : m.parity = s.parity := congrArg Prod.fst hpart
  rw [State.beam, hly, hlx, hparity, rendering_eq_of_cpuSide_eq hside, State.beam]

/-- A dot step moves the beam by one dot, and then opens the next gap of the same schedule and CPU. -/
theorem step_dot_beam {s : State} (hgap : s.gap = []) :
    ∃ m, step s = .next (openGap m) ∧ m.beam = s.beam.next ∧ m.cpu = s.cpu ∧ m.schedule = s.schedule := by
  obtain ⟨m, hrun⟩ := runAll_completes (decodeDot s.ly s.lx) s
  obtain ⟨t, hfront, hadvance⟩ := runAll_decodeDot_inv hrun
  obtain ⟨hside, hpart⟩ := runAll_dotFront_frame hfront
  obtain ⟨hbeam, hcpu, hschedule⟩ := advance_beam hadvance
  have hcpu' := congrArg State.cpu hside
  exact ⟨m, (step_dot hgap).trans (dotStep_of_runAll hrun), hbeam.trans (congrArg Beam.next (runAll_dotFront_beam hfront)),
    hcpu.trans hcpu', hschedule.trans (congrArg Prod.snd hpart)⟩

/-- At dot 339 of the pre-render line only an odd frame with rendering enabled ends it (R244). -/
theorem Beam.endsLine_of_dot339 {b : Beam} (hly : b.ly = 261#9) (hlx : b.lx = 339#9) :
    b.endsLine = (b.parity && b.rendering) := by
  simp [Beam.endsLine, hly, hlx]

theorem Beam.endsLine_of_dot340 {b : Beam} (hlx : b.lx = 340#9) : b.endsLine = true := by
  simp [Beam.endsLine, hlx]

/-- Settles O26: the beam after dots 339 and 340 of the pre-render line. -/
theorem oddRenderedFrameSkipsItsLastDot : Obligations.OddRenderedFrameSkipsItsLastDot := by
  unfold Obligations.OddRenderedFrameSkipsItsLastDot
  intro s hgap hly
  obtain ⟨m, hstep, hbeam, -⟩ := step_dot_beam hgap
  refine ⟨fun hlx => ⟨openGap m, hstep, fun hodd => ?skipped, fun heven => ?executed⟩,
    fun hlx => ⟨openGap m, hstep, ?last⟩⟩
  case skipped =>
    have hend := (Beam.endsLine_of_dot339 (b := s.beam) hly hlx).trans hodd
    rw [Beam.next_wrap hend hly, beam_eq_iff] at hbeam
    obtain ⟨hly', hlx', hparity, -⟩ := hbeam
    have hold : s.parity = true := Bool.and_elim_left hodd
    exact ⟨hly', hlx', hparity.trans (congrArg (!·) hold)⟩
  case executed =>
    have hend := (Beam.endsLine_of_dot339 (b := s.beam) hly hlx).trans heven
    rw [Beam.next_inside hend, beam_eq_iff] at hbeam
    obtain ⟨hly', hlx', hparity, -⟩ := hbeam
    exact ⟨hly'.trans hly, hlx'.trans (congrArg (· + 1#9) hlx), hparity⟩
  case last =>
    rw [Beam.next_wrap (Beam.endsLine_of_dot340 hlx) hly, beam_eq_iff] at hbeam
    obtain ⟨hly', hlx', hparity, -⟩ := hbeam
    exact ⟨hly', hlx', hparity⟩

end Sys2Proof.Machine
end

section
/-! The window of `vblank` (R240, R241, R390): it rises at the first dot of line 241 and falls at that of the pre-render
line. -/

namespace Sys2Proof

/-- The only row of LS241 is that of line 241 (R117). -/
theorem line_of_ls241_mem_dotFront {ly lx : Dot} (h : .ls241 ∈ dotFront ly lx) : ly = 241#9 := by
  have hrows : ∀ r ∈ dotTable.dropLast, r.build lx = .ls241 → r.line = some 241#9 := by
    simp [dotTable, dotRowsLineStart, dotRowsTransfer, dotRowsFetch, dotRowsPicture]
  obtain ⟨r, hr, hsel, hbuild⟩ := mem_dotFront.mp h
  rw [dotSelects, hrows r hr hbuild, Bool.and_eq_true, Bool.and_eq_true, Bool.or_eq_true] at hsel
  obtain ⟨⟨-, hnone | hline⟩, -⟩ := hsel
  · cases hnone
  · exact (Option.some.inj (beq_iff_eq.mp hline)).symm

namespace Machine

/-- Only LS241 raises `vblank` (R33, R240). -/
theorem exec_vblank {i : Instr} {s s' : State} (hi : i ≠ .ls241) (hs : s.vblank = false) (h : exec i s = .next s') :
    s'.vblank = false := by
  cases i
  case ls241 => exact absurd rfl hi
  case r2 | ls261 =>
    cases h
    rfl
  case w0 | w4 | prefill | pixel | reload | preload =>
    cases h
    exact hs
  case w7 d =>
    cases h
    obtain h' | ⟨k, -, h'⟩ := memWrite_structuralPart (portAddr s.v) d (latchWrite d s) <;>
      exact (congrArg StructuralPart.vblank h').trans hs
  case eval n => obtain h' | ⟨-, h'⟩ | ⟨-, -, -, h'⟩ := execEval_cases n s <;> cases h'.symm.trans h <;> exact hs
  case advance => obtain ⟨-, rfl⟩ | ⟨-, -, rfl⟩ | ⟨-, -, rfl⟩ := advance_cases h <;> exact hs
  all_goals exact (congrArg StructuralPart.vblank (exec_structuralPart rfl h)).trans hs

/-- Off line 241 the micro-operations of a position do not raise `vblank`. -/
theorem runAll_dotFront_vblank {ly lx : Dot} {s m : State} (hly : ly ≠ 241#9) (hs : s.vblank = false)
    (h : runAll (dotFront ly lx) s = .next m) : m.vblank = false :=
  runAll_keeps (P := fun t => t.vblank = false)
    (fun _ hi _ _ => exec_vblank fun hls => hly (line_of_ls241_mem_dotFront (hls ▸ hi))) hs h

/-- R241: the first dot of the pre-render line clears `vblank`. -/
theorem runAll_dotFront_vblank_preRender {s m : State} (h : runAll (dotFront 261#9 0#9) s = .next m) :
    m.vblank = false := by
  refine runAll_establishes (P := fun t => t.vblank = false) (Q := fun _ => True) (i := .ls261) (by decide)
    (fun _ _ _ _ _ _ => trivial) ?clear ?keep trivial h
  case clear =>
    intro t t' _ hexec
    cases hexec
    rfl
  case keep =>
    exact fun _ hi _ _ => exec_vblank fun hls => absurd (line_of_ls241_mem_dotFront (hls ▸ hi)) (by decide)

/-- Before its advance a position has `vblank` set on lines 241 to 260 only. -/
theorem runAll_dotFront_vblank_line {s m : State} (hpos : s.PositionInRange) (hs : s.VblankInWindow)
    (h : runAll (dotFront s.ly s.lx) s = .next m) (hm : m.vblank = true) : 241 ≤ s.ly.toNat ∧ s.ly.toNat ≤ 260 := by
  obtain ⟨hrange, -⟩ := hpos
  by_cases h241 : s.ly = 241#9
  · rw [h241]
    decide
  · have hset : s.vblank = true := by
      by_contra hclear
      rw [runAll_dotFront_vblank h241 (Bool.eq_false_of_not_eq_true hclear) h] at hm
      exact Bool.false_ne_true hm
    obtain ⟨hfirst, -, hlast⟩ := hs hset
    refine ⟨hfirst, ?_⟩
    by_contra hline
    obtain ⟨hly, hlx⟩ := hlast (by omega)
    have hly' : s.ly = 261#9 := BitVec.eq_of_toNat_eq hly
    have hlx' : s.lx = 0#9 := BitVec.eq_of_toNat_eq hlx
    rw [hly', hlx'] at h
    exact Bool.false_ne_true ((runAll_dotFront_vblank_preRender h).symm.trans hm)

/-- From a line of 241 to 260 the advance leads past (241, 0) and no further than (261, 0). -/
theorem advance_vblankInWindow {s s' : State} (hpos : s.PositionInRange)
    (hs : s.vblank = true → 241 ≤ s.ly.toNat ∧ s.ly.toNat ≤ 260) (h : exec .advance s = .next s') :
    s'.VblankInWindow := by
  obtain ⟨-, hrange⟩ := hpos
  obtain ⟨hend, rfl⟩ | ⟨-, -, rfl⟩ | ⟨-, hlast, rfl⟩ := advance_cases h
  · intro hset
    obtain ⟨hlow, hhigh⟩ := hs hset
    have hlx : (s.lx + 1#9).toNat = s.lx.toNat + 1 := by bv_omega
    exact ⟨hlow, fun _ => by simp only [hlx]; omega, fun hline => by simp only at hline; omega⟩
  · intro hset
    obtain ⟨hlow, hhigh⟩ := hs hset
    have hly : (s.ly + 1#9).toNat = s.ly.toNat + 1 := by bv_omega
    simp only [hly]
    exact ⟨by omega, fun hline => by omega, fun hline => ⟨by omega, rfl⟩⟩
  · intro hset
    obtain ⟨hlow, hhigh⟩ := hs hset
    exact absurd hlast (by bv_omega)

/-- A transaction neither raises `vblank` nor moves the position. -/
theorem transaction_vblankInWindow {i : Instr} {s s' : State} (hi : isTransaction i = true) (hs : s.VblankInWindow)
    (h : exec i s = .next s') : s'.VblankInWindow := by
  have hne : ∀ j, isTransaction j = false → i ≠ j := by
    rintro j hj rfl
    exact Bool.false_ne_true (hj.symm.trans hi)
  obtain ⟨hly, hlx⟩ := exec_position (hne .advance rfl) h
  intro hset
  rw [hly, hlx]
  exact hs (Bool.of_not_eq_false fun hclear =>
    Bool.false_ne_true ((exec_vblank (hne .ls241 rfl) hclear h).symm.trans hset))

/-- Settles O50: a transaction and the reset event do not raise the flag, and a dot step has it on lines 241 to 260 only
when its advance moves on. -/
theorem vblankStaysInItsWindow : Obligations.VblankStaysInItsWindow := by
  unfold Obligations.VblankStaysInItsWindow
  intro s s' hpos hs h
  obtain ⟨word, rest, -, hexec⟩ | ⟨rest, -, rfl⟩ | ⟨m, -, hrun, rfl⟩ := step_cases h
  · exact transaction_vblankInWindow (s := { s with gap := rest }) (isTransaction_decodePort s.w word) hs hexec
  · exact fun hset => absurd hset Bool.false_ne_true
  · obtain ⟨t, hfront, hadvance⟩ := runAll_decodeDot_inv hrun
    obtain ⟨hly, hlx⟩ := runAll_dotFront_position hfront
    have hpos' : t.PositionInRange := by
      rw [State.PositionInRange, hly, hlx]
      exact hpos
    have hline := runAll_dotFront_vblank_line hpos hs hfront
    rw [← hly] at hline
    exact advance_vblankInWindow (s' := m) hpos' hline hadvance

end Machine

end Sys2Proof
end

section
/-! The length of a frame (R248): with an idle CPU every step is a dot step, and the beam goes once over every position. -/

namespace Sys2Proof.Machine

/-! ### The way of the beam -/

/-- The `n`-th dot of the frame `b` is on, on a frame with no skipped dot. -/
def Beam.atDot (b : Beam) (n : Nat) : Beam := { b with ly := BitVec.ofNat 9 (n / 341), lx := BitVec.ofNat 9 (n % 341) }

/-- The dots of the frame `b` is on (R248). -/
def Beam.frameLength (b : Beam) : Nat := if b.parity && b.rendering then 89341 else 89342

theorem Beam.frameLength_le (b : Beam) : b.frameLength ≤ 89342 := by
  rw [Beam.frameLength]
  split <;> decide

theorem Beam.atDot_ly {n : Nat} (b : Beam) (hn : n < 89342) : (b.atDot n).ly.toNat = n / 341 := by
  rw [Beam.atDot, BitVec.toNat_ofNat]
  omega

theorem Beam.atDot_lx (b : Beam) (n : Nat) : (b.atDot n).lx.toNat = n % 341 := by
  rw [Beam.atDot, BitVec.toNat_ofNat]
  omega

/-- A beam of the frame `b` is on is at the dot its position says. -/
theorem Beam.eq_atDot {b : Beam} {ly lx : Dot} {n : Nat} (hly : ly.toNat = n / 341) (hlx : lx.toNat = n % 341) :
    { b with ly := ly, lx := lx } = b.atDot n := by
  rw [Beam.atDot, ← hly, ← hlx, BitVec.ofNat_toNat, BitVec.ofNat_toNat, BitVec.setWidth_eq, BitVec.setWidth_eq]

/-- The parity and the enables tell the two lengths of a frame apart. -/
theorem Beam.frameLength_cases (b : Beam) :
    (b.frameLength = 89341 ∧ (b.parity && b.rendering) = true) ∨
    (b.frameLength = 89342 ∧ (b.parity && b.rendering) = false) := by
  rw [Beam.frameLength]
  cases b.parity && b.rendering
  · exact .inr ⟨rfl, rfl⟩
  · exact .inl ⟨rfl, rfl⟩

theorem Beam.endsLine_iff (b : Beam) :
    b.endsLine = true ↔
      b.lx.toNat = 340 ∨ (b.lx.toNat = 339 ∧ b.ly.toNat = 261 ∧ (b.parity && b.rendering) = true) := by
  simp only [Beam.endsLine, Bool.or_eq_true, Bool.and_eq_true, beq_iff_eq, and_assoc, ← BitVec.toNat_inj]
  rfl

/-- Within a frame a line ends at its dot 340, and the last line with the frame. -/
theorem Beam.endsLine_atDot {b : Beam} {n : Nat} (hn : n < b.frameLength) :
    (b.atDot n).endsLine = true ↔ n % 341 = 340 ∨ n + 1 = b.frameLength := by
  have hle := b.frameLength_le
  rw [Beam.endsLine_iff, Beam.atDot_lx, Beam.atDot_ly b (by omega)]
  show n % 341 = 340 ∨ (n % 341 = 339 ∧ n / 341 = 261 ∧ (b.parity && b.rendering) = true) ↔ _
  obtain ⟨hlength, hodd⟩ | ⟨hlength, heven⟩ := b.frameLength_cases
  · simp only [hodd, and_true, hlength]
    omega
  · simp only [heven, Bool.false_eq_true, and_false, or_false, hlength]
    omega

/-- Within a frame the beam goes from each dot to the next. -/
theorem Beam.next_atDot {b : Beam} {n : Nat} (hn : n + 1 < b.frameLength) : (b.atDot n).next = b.atDot (n + 1) := by
  have hle := b.frameLength_le
  have hly := b.atDot_ly (n := n) (by omega)
  have hlx := b.atDot_lx n
  have hends := Beam.endsLine_atDot (b := b) (n := n) (by omega)
  cases hend : (b.atDot n).endsLine with
  | false =>
    rw [hend] at hends
    have hdot : n % 341 ≠ 340 := fun hlast => Bool.false_ne_true (hends.mpr (.inl hlast))
    rw [Beam.next_inside hend]
    exact Beam.eq_atDot (by omega) (by bv_omega)
  | true =>
    have hdot : n % 341 = 340 := (hends.mp hend).resolve_right (by omega)
    rw [Beam.next_nextLine hend (by bv_omega)]
    exact Beam.eq_atDot (by bv_omega) (by bv_omega)

/-- From its last dot the beam goes to the first of the next frame (R245). -/
theorem Beam.next_atDot_last {b : Beam} {n : Nat} (hn : n + 1 = b.frameLength) :
    (b.atDot n).next = { b with ly := 0#9, lx := 0#9, parity := !b.parity } := by
  have hlength := b.frameLength_cases
  have hly := b.atDot_ly (n := n) (by omega)
  exact Beam.next_wrap ((Beam.endsLine_atDot (by omega)).mpr (.inr hn)) (by bv_omega)

theorem Beam.iterate_next {b : Beam} (hly : b.ly = 0#9) (hlx : b.lx = 0#9) {n : Nat} (hn : n < b.frameLength) :
    Beam.next^[n] b = b.atDot n := by
  induction n with
  | zero => exact Beam.eq_atDot (congrArg BitVec.toNat hly) (congrArg BitVec.toNat hlx)
  | succ n ih => rw [Function.iterate_succ_apply', ih (by omega), Beam.next_atDot hn]

theorem Beam.iterate_next_frameLength {b : Beam} (hly : b.ly = 0#9) (hlx : b.lx = 0#9) :
    Beam.next^[b.frameLength] b = { b with ly := 0#9, lx := 0#9, parity := !b.parity } := by
  obtain ⟨n, hn⟩ : ∃ n, n + 1 = b.frameLength := Nat.exists_add_one_eq.mpr (by have := b.frameLength_cases; omega)
  rw [← hn, Function.iterate_succ_apply', Beam.iterate_next hly hlx (by omega), Beam.next_atDot_last hn]

/-! ### The steps -/

theorem openGap_cpuIdle {s : State} (hschedule : s.schedule = []) (hcpu : s.cpu = .idle) : (openGap s).CpuIdle :=
  ⟨nextGap_idle (s := emit .handOver s) hschedule hcpu, congrArg List.tail hschedule, hcpu⟩

/-- With an idle CPU every step is a dot step, and the CPU stays idle. -/
theorem runSteps_idle_beam {s : State} (hs : s.CpuIdle) (n : Nat) :
    ∃ s', runSteps n s = .next s' ∧ s'.CpuIdle ∧ s'.beam = Beam.next^[n] s.beam := by
  induction n with
  | zero => exact ⟨s, rfl, hs, rfl⟩
  | succ n ih =>
    obtain ⟨t, hrun, ⟨hgap, hschedule, hcpu⟩, hbeam⟩ := ih
    obtain ⟨m, hstep, hnext, hcpu', hschedule'⟩ := step_dot_beam hgap
    refine ⟨openGap m, ?run, openGap_cpuIdle (hschedule'.trans hschedule) (hcpu'.trans hcpu), ?beam⟩
    case run => rw [runSteps_add hrun, runSteps_succ hstep, runSteps_zero]
    case beam =>
      rw [Function.iterate_succ_apply', ← hbeam, ← hnext]
      rfl

section

variable {s : State} (hs : s.CpuIdle) (hly : s.ly = 0#9) (hlx : s.lx = 0#9)

include hs hly hlx

/-- The `n`-th step of a frame leads to its `n`-th dot. -/
theorem runSteps_inFrame {n : Nat} (hn : n < s.beam.frameLength) :
    ∃ s', runSteps n s = .next s' ∧ s'.framePosition = n ∧ s'.parity = s.parity := by
  obtain ⟨s', hrun, -, hbeam⟩ := runSteps_idle_beam hs n
  rw [Beam.iterate_next hly hlx hn] at hbeam
  obtain ⟨hly', hlx', hparity, -⟩ := beam_eq_iff.mp hbeam
  refine ⟨s', hrun, ?_, hparity⟩
  have := s.beam.frameLength_le
  rw [State.framePosition, hly', hlx', Beam.atDot_ly _ (by omega), Beam.atDot_lx, Nat.div_add_mod]

/-- The frame ends where it began, with the parity toggled. -/
theorem runSteps_frame :
    ∃ s', runSteps s.beam.frameLength s = .next s' ∧ s'.ly = 0#9 ∧ s'.lx = 0#9 ∧ s'.parity = !s.parity := by
  obtain ⟨s', hrun, -, hbeam⟩ := runSteps_idle_beam hs s.beam.frameLength
  rw [Beam.iterate_next_frameLength hly hlx] at hbeam
  obtain ⟨hly', hlx', hparity, -⟩ := beam_eq_iff.mp hbeam
  exact ⟨s', hrun, hly', hlx', hparity⟩

end

/-- Settles O30: the frame of the beam, with its length for the two kinds of frame. -/
theorem frameIsExactlyAsLongAsStated : Obligations.FrameIsExactlyAsLongAsStated := by
  unfold Obligations.FrameIsExactlyAsLongAsStated
  intro s hs hly hlx
  refine ⟨fun heven => ?even, fun hodd => ?odd⟩
  case even =>
    have hlength : s.beam.frameLength = 89342 := if_neg (Bool.not_eq_true _ ▸ heven)
    rw [← hlength]
    exact ⟨fun n hn => runSteps_inFrame hs hly hlx hn, runSteps_frame hs hly hlx⟩
  case odd =>
    have hlength : s.beam.frameLength = 89341 := if_pos hodd
    rw [← hlength]
    exact ⟨fun n hn => runSteps_inFrame hs hly hlx hn, runSteps_frame hs hly hlx⟩

end Sys2Proof.Machine
end

section
/-! The selection of a dot step (R112, R117) in numbers: what each mask of the table asks of `lx`, and each part of the table
as the part of R231's pseudocode it stands for. -/

namespace Sys2Proof

open Sys2Proof.Machine

/-! ### Masks as fields of `lx` -/

/-- A word is its high, middle and low field side by side. -/
theorem threeFields_eq {h m l : Nat} (b : BitVec (h + m + l)) :
    b.extractLsb' (m + l) h ++ b.extractLsb' l m ++ b.extractLsb' 0 l = b := by
  have hhigh : b.toNat / 2 ^ (m + l) < 2 ^ h := by
    rw [Nat.div_lt_iff_lt_mul (Nat.two_pow_pos _), ← pow_add, ← Nat.add_assoc]
    exact b.isLt
  apply BitVec.eq_of_toNat_eq
  rw [middle_append_toNat, extract_toNat, extract_toNat, extract_toNat, Nat.mod_eq_of_lt hhigh, Nat.add_comm m l, pow_add,
    ← Nat.div_div_eq_div_mul, Nat.div_add_mod, pow_zero, Nat.div_one, Nat.div_add_mod]

/-- A mask of a high and a low field of ones clears the field between them. -/
theorem and_outerFields_toNat {h m l : Nat} (b : BitVec (h + m + l)) :
    (b &&& (BitVec.allOnes h ++ 0#m ++ BitVec.allOnes l)).toNat =
      2 ^ (m + l) * (b.toNat / 2 ^ (m + l) % 2 ^ h) + b.toNat % 2 ^ l := by
  conv_lhs => rw [← threeFields_eq b]
  rw [BitVec.and_append, BitVec.and_append, BitVec.and_allOnes, BitVec.and_allOnes, BitVec.and_zero, middle_append_toNat,
    extract_toNat, extract_toNat, BitVec.toNat_zero, Nat.add_zero, ← Nat.mul_assoc, ← pow_add, pow_zero, Nat.div_one,
    Nat.add_comm l m]

theorem ofNat_toNat_of_lt {k : Nat} (h : k < 512) : (BitVec.ofNat 9 k).toNat = k := by
  rw [BitVec.toNat_ofNat, Nat.mod_eq_of_lt h]

section

variable {lx : Nat} (hlx : lx ≤ 340)

include hlx

/-- What a mask of a high and a low field of ones asks of a dot. -/
theorem dot_and_outerFields_iff (h m l : Nat) (hwidth : h + m + l = 9) {mask p : Dot}
    (hmask : mask = (BitVec.allOnes h ++ 0#m ++ BitVec.allOnes l).cast hwidth) :
    BitVec.ofNat 9 lx &&& mask = p ↔ 2 ^ (m + l) * (lx / 2 ^ (m + l)) + lx % 2 ^ l = p.toNat := by
  have hnat : (BitVec.ofNat (h + m + l) lx).toNat = lx := by
    rw [BitVec.toNat_ofNat, hwidth, Nat.mod_eq_of_lt (by omega)]
  have hhigh : lx / 2 ^ (m + l) < 2 ^ h := by
    rw [Nat.div_lt_iff_lt_mul (Nat.two_pow_pos _), ← pow_add, ← Nat.add_assoc, hwidth]
    omega
  have hfields := and_outerFields_toNat (BitVec.ofNat (h + m + l) lx)
  rw [hnat, Nat.mod_eq_of_lt hhigh] at hfields
  rw [← hfields, hmask, ← BitVec.toNat_inj, BitVec.toNat_and, BitVec.toNat_and, BitVec.toNat_cast, hnat,
    ofNat_toNat_of_lt (hlx.trans_lt (by decide))]

/-- A row that names one dot. -/
theorem dot_and_0x1FF_iff (p : Dot) : BitVec.ofNat 9 lx &&& 0x1FF#9 = p ↔ lx = p.toNat :=
  (dot_and_outerFields_iff hlx 9 0 0 rfl rfl).trans (by omega)

/-- One dot in eight of the first 256. -/
theorem dot_and_0x107_iff {p : Dot} (hp : p.toNat / 8 = 0) :
    BitVec.ofNat 9 lx &&& 0x107#9 = p ↔ lx ≤ 255 ∧ lx % 8 = p.toNat % 8 :=
  (dot_and_outerFields_iff hlx 1 5 3 rfl rfl).trans (by omega)

/-- One dot in four of the first 256. -/
theorem dot_and_0x103_iff {p : Dot} (hp : p.toNat / 4 = 0) :
    BitVec.ofNat 9 lx &&& 0x103#9 = p ↔ lx ≤ 255 ∧ lx % 4 = p.toNat % 4 :=
  (dot_and_outerFields_iff hlx 1 6 2 rfl rfl).trans (by omega)

/-- Every dot of the first 256. -/
theorem dot_and_0x100_iff : BitVec.ofNat 9 lx &&& 0x100#9 = 0x000#9 ↔ lx ≤ 255 :=
  (dot_and_outerFields_iff hlx 1 8 0 rfl rfl).trans (by simp; omega)

/-- One dot in eight of 256 to 319. -/
theorem dot_and_0x1C7_iff {p : Dot} (hp : p.toNat / 8 = 32) :
    BitVec.ofNat 9 lx &&& 0x1C7#9 = p ↔ (256 ≤ lx ∧ lx ≤ 319) ∧ lx % 8 = p.toNat % 8 :=
  (dot_and_outerFields_iff hlx 3 3 3 rfl rfl).trans (by omega)

/-- One dot in eight of 320 to 335. -/
theorem dot_and_0x1F7_iff {p : Dot} (hp : p.toNat / 8 = 40) :
    BitVec.ofNat 9 lx &&& 0x1F7#9 = p ↔ (320 ≤ lx ∧ lx ≤ 335) ∧ lx % 8 = p.toNat % 8 :=
  (dot_and_outerFields_iff hlx 5 1 3 rfl rfl).trans (by omega)

end

/-! ### Classes and rows -/

theorem classIn_vbp (c : LineClass) : classIn .vbp c = true := rfl

theorem classIn_v_iff (ly : Dot) : classIn .v (lineClass ly) = true ↔ ly.toNat ≤ 239 := by
  refine ⟨line_le_of_classIn_v, fun h => ?_⟩
  rw [lineClass, if_pos h]
  rfl

/-- Class P is line 261 (R112). -/
theorem classIn_p_iff (ly : Dot) : classIn .p (lineClass ly) = true ↔ ly.toNat = 261 := by
  rw [lineClass]
  split_ifs with hvisible hpre
  · exact iff_of_false Bool.false_ne_true (by omega)
  · exact iff_of_true rfl (congrArg BitVec.toNat hpre)
  · exact iff_of_false Bool.false_ne_true (mt (BitVec.eq_of_toNat_eq (y := 261#9)) hpre)

theorem classIn_vp_iff (ly : Dot) : classIn .vp (lineClass ly) = true ↔ ly.toNat ≤ 239 ∨ ly.toNat = 261 := by
  rw [← classIn_v_iff, ← classIn_p_iff]
  cases lineClass ly <;> decide

theorem classIn_b_iff (ly : Dot) : classIn .b (lineClass ly) = true ↔ ¬ (ly.toNat ≤ 239 ∨ ly.toNat = 261) := by
  rw [← classIn_vp_iff]
  cases lineClass ly <;> decide

/-- A post-render line is in no class but B. -/
theorem lineClass_eq_postRender {ly : Dot} (h : ¬ (ly.toNat ≤ 239 ∨ ly.toNat = 261)) : lineClass ly = .postRender := by
  rw [lineClass, if_neg (fun hvisible => h (.inl hvisible)), if_neg (fun hpre => h (.inr (congrArg BitVec.toNat hpre)))]

theorem whenever_congr {c d : Prop} [Decidable c] [Decidable d] (h : c ↔ d) (i : Instr) : whenever c i = whenever d i :=
  if_congr h rfl rfl

theorem selectedOf_nil (ly lx : Dot) : selectedOf [] ly lx = [] := rfl

/-- A row gives its micro-operation where its class, its line and its match are met (R112). -/
theorem selectedOf_cons (r : DotRow) (rows : List DotRow) (ly lx : Dot) :
    selectedOf (r :: rows) ly lx =
      whenever (classIn r.classes (lineClass ly) = true ∧ (r.line = none ∨ r.line = some ly) ∧ lx &&& r.mask = r.pattern)
        (r.build lx) ++ selectedOf rows ly lx := by
  have hsel : dotSelects r ly lx = true ↔
      classIn r.classes (lineClass ly) = true ∧ (r.line = none ∨ r.line = some ly) ∧ lx &&& r.mask = r.pattern := by
    rw [dotSelects, Bool.and_eq_true, Bool.and_eq_true, Bool.or_eq_true, beq_iff_eq, beq_iff_eq, beq_iff_eq, and_assoc]
  rw [whenever, ← if_congr hsel rfl rfl, selectedOf, List.filter_cons]
  cases dotSelects r ly lx <;> rfl

theorem selectedOf_append (rows rows' : List DotRow) (ly lx : Dot) :
    selectedOf (rows ++ rows') ly lx = selectedOf rows ly lx ++ selectedOf rows' ly lx := by
  rw [selectedOf, List.filter_append, List.map_append]
  rfl

/-- Rows of rendering lines give nothing elsewhere. -/
theorem selectedOf_eq_nil {rows : List DotRow} {ly : Dot} (lx : Dot)
    (h : ∀ r ∈ rows, classIn r.classes (lineClass ly) = false) : selectedOf rows ly lx = [] := by
  rw [selectedOf, List.map_eq_nil_iff, List.filter_eq_nil_iff]
  intro r hr
  rw [dotSelects, h r hr, Bool.false_and, Bool.false_and]
  exact Bool.false_ne_true

/-! ### Operands (log entry 14) -/

/-- The slot of a sprite fetch. -/
theorem slot_eq_ofNat {lx : Nat} (h : 256 ≤ lx ∧ lx ≤ 319) :
    (BitVec.ofNat 9 lx).extractLsb' 3 3 = BitVec.ofNat 3 ((lx - 256) / 8) := by
  apply BitVec.eq_of_toNat_eq
  rw [extract_toNat, BitVec.toNat_ofNat, BitVec.toNat_ofNat]
  omega

/-- The column of a pixel. -/
theorem column_eq_ofNat (lx : Nat) : (BitVec.ofNat 9 lx).extractLsb' 0 8 = BitVec.ofNat 8 lx := by
  apply BitVec.eq_of_toNat_eq
  rw [extract_toNat, BitVec.toNat_ofNat, BitVec.toNat_ofNat]
  omega

/-- The sprite of an evaluation dot. -/
theorem sprite_eq_ofNat (lx : Nat) : (BitVec.ofNat 9 lx).extractLsb' 2 6 = BitVec.ofNat 6 (lx / 4) := by
  apply BitVec.eq_of_toNat_eq
  rw [extract_toNat, BitVec.toNat_ofNat, BitVec.toNat_ofNat]
  omega

/-! ### The parts of the table -/

section

variable {ly lx : Nat} (hlx : lx ≤ 340)

include hlx

/-- R231 step 2b. -/
theorem selectedOf_fetch (hline : classIn .vp (lineClass (BitVec.ofNat 9 ly)) = true) :
    selectedOf dotRowsFetch (BitVec.ofNat 9 ly) (BitVec.ofNat 9 lx) = accessOf lx := by
  simp (disch := decide) only [dotRowsFetch, selectedOf_cons, selectedOf_nil, hline, true_and, true_or,
    dot_and_0x1FF_iff hlx, dot_and_0x107_iff hlx, dot_and_0x1C7_iff hlx, dot_and_0x1F7_iff hlx,
    BitVec.reduceToNat, Nat.reduceMod]
  obtain h | h | h | h : lx ≤ 255 ∨ (256 ≤ lx ∧ lx ≤ 319) ∨ (320 ≤ lx ∧ lx ≤ 335) ∨ 336 ≤ lx := by omega
  · have hlow : ¬ 256 ≤ lx ∧ ¬ 320 ≤ lx ∧ lx ≠ 336 ∧ lx ≠ 338 := by omega
    simp [accessOf, whenever, h, hlow]
  · have hmid : ¬ lx ≤ 255 ∧ ¬ 320 ≤ lx ∧ lx ≠ 336 ∧ lx ≠ 338 := by omega
    simp [accessOf, whenever, h, hmid, slot_eq_ofNat h]
  · have hmid : ¬ lx ≤ 255 ∧ ¬ lx ≤ 319 ∧ lx ≠ 336 ∧ lx ≠ 338 := by omega
    simp [accessOf, whenever, h, hmid]
  · have hhigh : ¬ lx ≤ 255 ∧ ¬ lx ≤ 319 ∧ ¬ lx ≤ 335 := by omega
    simp [accessOf, whenever, hhigh]

/-- R231 steps 2c, 2d and 2e on a rendering line. -/
theorem selectedOf_picture (hly : ly ≤ 261) (hline : classIn .vp (lineClass (BitVec.ofNat 9 ly)) = true) :
    selectedOf dotRowsPicture.dropLast (BitVec.ofNat 9 ly) (BitVec.ofNat 9 lx) =
      whenever (ly ≤ 239 ∧ lx ≤ 255) (.pixel (BitVec.ofNat 8 lx)) ++
      whenever (lx ≤ 255 ∧ lx % 4 = 3) (.eval (BitVec.ofNat 6 (lx / 4))) ++ groupEndOf lx := by
  simp (disch := decide) only [dotRowsPicture, List.dropLast, selectedOf_cons, selectedOf_nil, hline, true_and, true_or,
    dot_and_0x1FF_iff hlx, dot_and_0x107_iff hlx, dot_and_0x103_iff hlx, dot_and_0x100_iff hlx, dot_and_0x1F7_iff hlx,
    BitVec.reduceToNat, Nat.reduceMod, column_eq_ofNat, sprite_eq_ofNat, classIn_v_iff,
    ofNat_toNat_of_lt (show ly < 512 by omega)]
  obtain h | h | h | h : lx ≤ 255 ∨ (256 ≤ lx ∧ lx ≤ 319) ∨ (320 ≤ lx ∧ lx ≤ 335) ∨ 336 ≤ lx := by omega
  · have hlow : ¬ 320 ≤ lx := by omega
    simp [groupEndOf, whenever, h, hlow]
  · have hmid : ¬ lx ≤ 255 ∧ ¬ 320 ≤ lx ∧ lx ≠ 255 := by omega
    simp [groupEndOf, whenever, hmid]
  · have hmid : ¬ lx ≤ 255 ∧ lx ≠ 255 := by omega
    simp [groupEndOf, whenever, h, hmid]
  · have hhigh : ¬ lx ≤ 255 ∧ ¬ lx ≤ 335 ∧ lx ≠ 255 := by omega
    simp [groupEndOf, whenever, hhigh]

/-- R231 step 2a on a rendering line. -/
theorem selectedOf_transfer (hly : ly ≤ 261) (hline : classIn .vp (lineClass (BitVec.ofNat 9 ly)) = true) :
    selectedOf dotRowsTransfer (BitVec.ofNat 9 ly) (BitVec.ofNat 9 lx) =
      whenever (lx = 0) .prefill ++ whenever (lx = 256) .bankcopy ++ whenever (lx = 257) .copyh ++
      whenever (ly = 261 ∧ lx = 304) .copyv := by
  simp only [dotRowsTransfer, selectedOf_cons, selectedOf_nil, hline, true_and, true_or, dot_and_0x1FF_iff hlx,
    BitVec.reduceToNat, classIn_p_iff, ofNat_toNat_of_lt (show ly < 512 by omega), List.append_assoc, List.append_nil]

/-- R231 step 1. -/
theorem selectedOf_lineStart (hly : ly ≤ 261) :
    selectedOf dotRowsLineStart (BitVec.ofNat 9 ly) (BitVec.ofNat 9 lx) =
      whenever (lx = 0) .syncchk ++ whenever (lx = 0 ∧ ly = 241) .ls241 ++ whenever (lx = 0 ∧ ly = 261) .ls261 := by
  have hline : some 241#9 = some (BitVec.ofNat 9 ly) ↔ ly = 241 := by
    rw [Option.some_inj, ← BitVec.toNat_inj, ofNat_toNat_of_lt (k := ly) (by omega), eq_comm]
    rfl
  simp only [dotRowsLineStart, selectedOf_cons, selectedOf_nil, classIn_vbp, true_and, true_or, dot_and_0x1FF_iff hlx,
    BitVec.reduceToNat, classIn_p_iff, classIn_b_iff, ofNat_toNat_of_lt (show ly < 512 by omega), reduceCtorEq, false_or,
    hline, List.append_assoc, List.append_nil]
  rw [whenever_congr (d := lx = 0 ∧ ly = 241) (by omega) .ls241, whenever_congr and_comm .ls261]

end

/-- The table before the advance, in the parts of R231. -/
theorem dotFront_eq_parts (ly lx : Dot) :
    dotFront ly lx =
      selectedOf dotRowsLineStart ly lx ++
      selectedOf (dotRowsTransfer ++ dotRowsFetch ++ dotRowsPicture.dropLast) ly lx := by
  rw [← selectedOf_append]
  rfl

/-- Settles O27: the parts of the table one after the other, those of rendering lines giving nothing elsewhere, then the
advance. -/
theorem dotStepSelectsInOrder : Obligations.DotStepSelectsInOrder := by
  unfold Obligations.DotStepSelectsInOrder
  intro ly lx hly hlx
  have hrender := classIn_vp_iff (BitVec.ofNat 9 ly)
  have hpost := lineClass_eq_postRender (ly := BitVec.ofNat 9 ly)
  rw [ofNat_toNat_of_lt (by omega)] at hrender hpost
  rw [decodeDot_eq_front_advance, dotFront_eq_parts, selectedOf_lineStart hlx hly, dotScheduleOf]
  congr 2
  split_ifs with hline
  · rw [← hrender] at hline
    rw [selectedOf_append, selectedOf_append, selectedOf_transfer hlx hly hline, selectedOf_fetch hlx hline,
      selectedOf_picture hlx hly hline]
    simp only [List.append_assoc]
  · refine selectedOf_eq_nil _ ?_
    rw [hpost hline]
    decide

end Sys2Proof
end

section
/-! The post-render lines (R233): what their dot steps run, and what SYNCCHK, LS241 and ADVANCE leave alone. -/

namespace Sys2Proof

open Sys2Proof.Machine

/-- The dot steps of lines 240 to 260 (R231, R233). -/
theorem decodeDot_postRender {ly lx : Dot} (hlow : 240 ≤ ly.toNat) (hhigh : ly.toNat ≤ 260) (hlx : lx.toNat ≤ 340) :
    decodeDot ly lx =
      whenever (lx.toNat = 0) .syncchk ++ whenever (lx.toNat = 0 ∧ ly.toNat = 241) .ls241 ++ [.advance] := by
  have hsel := dotStepSelectsInOrder ly.toNat lx.toNat (by omega) hlx
  have hpre : ¬ (lx.toNat = 0 ∧ ly.toNat = 261) := by omega
  have hline : ¬ (ly.toNat ≤ 239 ∨ ly.toNat = 261) := by omega
  rw [BitVec.ofNat_toNat, BitVec.ofNat_toNat, BitVec.setWidth_eq, BitVec.setWidth_eq] at hsel
  rw [hsel, dotScheduleOf, if_neg hline, whenever, whenever, whenever, if_neg hpre, List.append_nil, List.append_nil]

theorem mem_whenever {c : Prop} [Decidable c] {i j : Instr} : j ∈ whenever c i ↔ c ∧ j = i := by
  rw [whenever, List.mem_ite_nil_right, List.mem_singleton]

/-- The instructions of a post-render line, LS241 at the first dot of line 241 only. -/
theorem mem_decodeDot_postRender {i : Instr} {ly lx : Dot} (hlow : 240 ≤ ly.toNat) (hhigh : ly.toNat ≤ 260)
    (hlx : lx.toNat ≤ 340) (h : i ∈ decodeDot ly lx) :
    i = .syncchk ∨ i = .advance ∨ (i = .ls241 ∧ ly.toNat = 241 ∧ lx.toNat = 0) := by
  rw [decodeDot_postRender hlow hhigh hlx, List.mem_append, List.mem_append, mem_whenever, mem_whenever,
    List.mem_singleton] at h
  tauto

namespace Machine

/-! ### What the three instructions leave alone -/

/-- What a post-render line leaves alone of the picture: `v`, the banks, the pipeline, the frame buffer, the sprite flags, and
the number of mapper calls. -/
def State.picturePart (s : State) : State × Nat :=
  ({ State.reset with
    v := s.v, sec := s.sec, spr := s.spr, secCount := s.secCount, bgLo := s.bgLo, bgHi := s.bgHi, bgAt := s.bgAt,
    ntLatch := s.ntLatch, atLatch := s.atLatch, loLatch := s.loLatch, hiLatch := s.hiLatch, fb := s.fb,
    spr0hit := s.spr0hit, sprovf := s.sprovf }, s.mapperCalls)

theorem picturePart_eq_iff {s s' : State} :
    s'.picturePart = s.picturePart ↔
      s'.v = s.v ∧ s'.sec = s.sec ∧ s'.spr = s.spr ∧ s'.secCount = s.secCount ∧ s'.bgLo = s.bgLo ∧ s'.bgHi = s.bgHi ∧
      s'.bgAt = s.bgAt ∧ s'.ntLatch = s.ntLatch ∧ s'.atLatch = s.atLatch ∧ s'.loLatch = s.loLatch ∧
      s'.hiLatch = s.hiLatch ∧ s'.fb = s.fb ∧ s'.spr0hit = s.spr0hit ∧ s'.sprovf = s.sprovf ∧
      s'.mapperCalls = s.mapperCalls := by
  simp only [State.picturePart, Prod.mk.injEq, State.mk.injEq, true_and, and_true]
  tauto

theorem exec_picturePart {i : Instr} {s s' : State} (hi : i = .syncchk ∨ i = .advance ∨ i = .ls241)
    (h : exec i s = .next s') : s'.picturePart = s.picturePart := by
  obtain rfl | rfl | rfl := hi
  · simp only [exec, execSyncchk] at h
    split at h <;> cases h <;> rfl
  · obtain ⟨-, rfl⟩ | ⟨-, -, rfl⟩ | ⟨-, -, rfl⟩ := advance_cases h <;> rfl
  · cases h
    rfl

/-- The hand-over is no mapper call. -/
theorem openGap_picturePart (s : State) : (openGap s).picturePart = s.picturePart := rfl

/-- Neither SYNCCHK nor ADVANCE drives the flag or the line. -/
theorem exec_vblank_irqLine {i : Instr} {s s' : State} (hi : i = .syncchk ∨ i = .advance) (h : exec i s = .next s') :
    s'.vblank = s.vblank ∧ s'.irqLine = s.irqLine := by
  obtain rfl | rfl := hi
  · have hpart := exec_structuralPart rfl h
    exact ⟨congrArg StructuralPart.vblank hpart, congrArg StructuralPart.irqLine hpart⟩
  · obtain ⟨-, rfl⟩ | ⟨-, -, rfl⟩ | ⟨-, -, rfl⟩ := advance_cases h <;> exact ⟨rfl, rfl⟩

/-- Off the pre-render line an advance notes nothing and uses no answer of the scheduler. -/
theorem advance_log {s s' : State} (hly : s.ly ≠ 261#9) (h : exec .advance s = .next s') :
    s'.log = s.log ∧ s'.syncRequests = s.syncRequests := by
  obtain ⟨-, rfl⟩ | ⟨-, -, rfl⟩ | ⟨-, hlast, -⟩ := advance_cases h
  · exact ⟨rfl, rfl⟩
  · exact ⟨rfl, rfl⟩
  · exact absurd ((succ_line_wraps_iff s.ly).mp hlast) hly

/-! ### The steps -/

section

variable {s m : State} (hlow : 240 ≤ s.ly.toNat) (hhigh : s.ly.toNat ≤ 260) (hlx : s.lx.toNat ≤ 340)
  (h : runAll (decodeDot s.ly s.lx) s = .next m)

include hlow hhigh hlx h

theorem runAll_postRender_picturePart : m.picturePart = s.picturePart := by
  refine runAll_keeps (P := fun t => t.picturePart = s.picturePart) (fun i hi t t' ht hexec => ?_) rfl h
  have hkind := mem_decodeDot_postRender hlow hhigh hlx hi
  exact (exec_picturePart (by tauto) hexec).trans ht

/-- R240: only (241, 0) drives the flag and the line. -/
theorem runAll_postRender_vblank_irqLine (hdot : ¬ (s.ly.toNat = 241 ∧ s.lx.toNat = 0)) :
    m.vblank = s.vblank ∧ m.irqLine = s.irqLine := by
  refine runAll_keeps (P := fun t => t.vblank = s.vblank ∧ t.irqLine = s.irqLine) ?step ⟨rfl, rfl⟩ h
  case step =>
    rintro i hi t t' ⟨hvblank, hirq⟩ hexec
    have hkind := mem_decodeDot_postRender hlow hhigh hlx hi
    obtain ⟨hvblank', hirq'⟩ := exec_vblank_irqLine (by tauto) hexec
    exact ⟨hvblank'.trans hvblank, hirq'.trans hirq⟩

/-- Past dot 0 a post-render dot is its advance. -/
theorem runAll_postRender_pastDotZero (hdot : s.lx.toNat ≠ 0) : exec .advance s = .next m := by
  have hls241 : ¬ (s.lx.toNat = 0 ∧ s.ly.toNat = 241) := fun hls => hdot hls.1
  rw [decodeDot_postRender hlow hhigh hlx, whenever, whenever, if_neg hdot, if_neg hls241] at h
  obtain ⟨t, hadvance, hnil⟩ := runAll_cons_inv h
  cases hnil
  exact hadvance

/-- Dot 0 of a post-render line but 241: the check, then the advance. -/
theorem runAll_postRender_dotZero (hdot : s.lx.toNat = 0) (hly : s.ly.toNat ≠ 241) :
    ∃ a, exec .syncchk s = .next a ∧ exec .advance a = .next m := by
  have hls241 : ¬ (s.lx.toNat = 0 ∧ s.ly.toNat = 241) := fun hls => hly hls.2
  rw [decodeDot_postRender hlow hhigh hlx, whenever, whenever, if_pos hdot, if_neg hls241] at h
  obtain ⟨a, hsync, hrest⟩ := runAll_cons_inv h
  obtain ⟨t, hadvance, hnil⟩ := runAll_cons_inv hrest
  cases hnil
  exact ⟨a, hsync, hadvance⟩

/-- Dot 0 of line 241: the check, the line start, then the advance (R240). -/
theorem runAll_postRender_lineStart (hdot : s.lx.toNat = 0) (hly : s.ly.toNat = 241) :
    ∃ a b, exec .syncchk s = .next a ∧ exec .ls241 a = .next b ∧ exec .advance b = .next m := by
  rw [decodeDot_postRender hlow hhigh hlx, whenever, whenever, if_pos hdot, if_pos ⟨hdot, hly⟩] at h
  obtain ⟨a, hsync, hrest⟩ := runAll_cons_inv h
  obtain ⟨b, hline, hlast⟩ := runAll_cons_inv hrest
  obtain ⟨t, hadvance, hnil⟩ := runAll_cons_inv hlast
  cases hnil
  exact ⟨a, b, hsync, hline, hadvance⟩

end

/-- Settles O29: the frame by what the instructions of a post-render line leave alone, the CPU's side by
`dotStepKeepsTheCpuSide`, and the run itself by the selection of each of the three kinds of dot. -/
theorem postRenderLinesOnlyAdvance : Obligations.PostRenderLinesOnlyAdvance := by
  unfold Obligations.PostRenderLinesOnlyAdvance
  intro s hgap hlow hhigh hlx
  obtain ⟨m, hrun⟩ := runAll_completes (decodeDot s.ly s.lx) s
  have hstep : step s = .next (openGap m) := (step_dot hgap).trans (dotStep_of_runAll hrun)
  have hpicture := (openGap_picturePart m).trans (runAll_postRender_picturePart hlow hhigh hlx hrun)
  have hne : s.ly ≠ 261#9 := by bv_omega
  obtain ⟨hv, hsec, hspr, hcount, hbgLo, hbgHi, hbgAt, hnt, hat, hlo, hhi, hfb, hhit, hovf, hcalls⟩ :=
    picturePart_eq_iff.mp hpicture
  refine ⟨openGap m, hstep, hv, hsec, hspr, hcount, hbgLo, hbgHi, hbgAt, hnt, hat, hlo, hhi, hfb, hhit, hovf, hcalls,
    dotStepKeepsTheCpuSide s _ hgap hstep, runAll_postRender_vblank_irqLine (m := m) hlow hhigh hlx hrun,
    fun hdot => ?pastDotZero, fun hdot hly => ?dotZero, fun hdot hly => ?lineStart⟩
  case pastDotZero =>
    have hadvance := runAll_postRender_pastDotZero hlow hhigh hlx hrun hdot
    obtain ⟨hlog, hsync⟩ := advance_log hne hadvance
    exact ⟨m, hadvance, rfl, congrArg (List.cons Event.handOver) hlog, hsync⟩
  case dotZero =>
    obtain ⟨a, hsync, hadvance⟩ := runAll_postRender_dotZero hlow hhigh hlx hrun hdot hly
    exact ⟨a, m, hsync, hadvance, rfl⟩
  case lineStart =>
    obtain ⟨a, b, hsync, hline, hadvance⟩ := runAll_postRender_lineStart hlow hhigh hlx hrun hdot hly
    exact ⟨a, b, m, hsync, hline, hadvance, rfl⟩

end Machine

end Sys2Proof
end

section
/-! The background fetch pipeline (spec/45_background_fetch.md R270 to R277) and the dummy fetches of the sprite pipeline
(R295): every address as a number, what a fetch does by the memory its address lies in, and the next states. -/

namespace Sys2Proof.Machine

/-! ### Addresses and operands in numbers -/

/-- R271 as a word. -/
theorem ntAddr_eq_ofNat (v : VReg) : ntAddr v = BitVec.ofNat 14 (0x2000 + v.toNat % 0x1000) := by
  rw [← ntAddr_toNat, BitVec.ofNat_toNat, BitVec.setWidth_eq]

/-- R272 as a word. -/
theorem atAddr_eq_ofNat (v : VReg) :
    atAddr v =
      BitVec.ofNat 14 (0x23C0 + 1024 * (v.toNat / 1024 % 4) + 8 * (v.toNat / 128 % 8) + v.toNat / 4 % 8) := by
  rw [← atAddr_toNat, BitVec.ofNat_toNat, BitVec.setWidth_eq]

/-- R273 as a word. -/
theorem bgPatAddr_eq_ofNat (sel : Bool) (nt : Byte) (plane : Bool) (v : VReg) :
    bgPatAddr sel nt plane v =
      BitVec.ofNat 14 (4096 * sel.toNat + 16 * nt.toNat + 8 * plane.toNat + v.toNat / 4096) := by
  rw [← bgPatAddr_toNat, BitVec.ofNat_toNat, BitVec.setWidth_eq]

/-- The address of a plane of the tile in `nt_latch` (R273). -/
def State.planeAddr (s : State) (plane : Bool) : VAddr := bgPatAddr s.bgPatternSel s.ntLatch plane s.v

theorem planeAddr_low (s : State) :
    s.planeAddr false = BitVec.ofNat 14 (4096 * s.bgPatternSel.toNat + 16 * s.ntLatch.toNat + s.v.toNat / 4096) :=
  bgPatAddr_eq_ofNat s.bgPatternSel s.ntLatch false s.v

/-- The high plane of a row stands 8 bytes past its low plane. -/
theorem planeAddr_high (s : State) :
    s.planeAddr true = BitVec.ofNat 14 (4096 * s.bgPatternSel.toNat + 16 * s.ntLatch.toNat + 8 + s.v.toNat / 4096) :=
  bgPatAddr_eq_ofNat s.bgPatternSel s.ntLatch true s.v

/-- R271: "The address is always in 0x2000 to 0x2FFF". -/
theorem ntAddr_nametable (v : VReg) : ¬ (ntAddr v).toNat < 0x2000 := by
  rw [ntAddr_toNat]
  omega

theorem atAddr_nametable (v : VReg) : ¬ (atAddr v).toNat < 0x2000 := by
  rw [atAddr_toNat]
  omega

/-- R273: a background pattern address lies in pattern memory. -/
theorem bgPatAddr_pattern (sel : Bool) (nt : Byte) (plane : Bool) (v : VReg) :
    (bgPatAddr sel nt plane v).toNat < 0x2000 := by
  have hsel := Bool.toNat_le sel
  have hplane := Bool.toNat_le plane
  rw [bgPatAddr_toNat]
  omega

/-- R272: the two bits of the quadrant in numbers. -/
theorem atSelect_eq_ofNat (b : Byte) (v : VReg) :
    atSelect b v = BitVec.ofNat 2 (b.toNat / 2 ^ (4 * (v.toNat / 64 % 2) + 2 * (v.toNat / 2 % 2))) := by
  apply BitVec.eq_of_toNat_eq
  rw [atSelect, extract_toNat, atShift_eq, BitVec.toNat_ofNat]

/-- Every quadrant of a zero byte is zero. -/
theorem atSelect_zero (v : VReg) : atSelect 0x00#8 v = 0#2 := BitVec.extractLsb'_zero

/-- A register moved up by a byte, in numbers. -/
theorem lowByte_append_eq_ofNat (r : BitVec 16) (b : Byte) :
    r.extractLsb' 0 8 ++ b = BitVec.ofNat 16 (256 * r.toNat + b.toNat) := by
  apply BitVec.eq_of_toNat_eq
  rw [append_toNat, extract_toNat, BitVec.toNat_ofNat]
  omega

/-- A two-bit latch as a byte. -/
theorem zeroBits_append_toNat (p : BitVec 2) : (0#6 ++ p).toNat = p.toNat := by
  rw [append_toNat]
  exact Nat.zero_add _

/-! ### What a fetch does -/

/-- R75, R94: a fetch in nametable memory. -/
theorem fetch_nametable {a : VAddr} (ha : ¬ a.toNat < 0x2000) (s : State) :
    fetch a s =
      if s.rendering then (mapperReply s a, { s with log := .ntRead a (mapperReply s a) :: s.log }) else (0x00#8, s) := by
  rw [fetch_eq, readEvent, if_neg ha]

/-- R74, R94: a fetch in pattern memory. -/
theorem fetch_pattern {a : VAddr} (ha : a.toNat < 0x2000) (s : State) :
    fetch a s =
      if s.rendering then (mapperReply s a, { s with log := .patRead a (mapperReply s a) :: s.log }) else (0x00#8, s) := by
  rw [fetch_eq, readEvent, if_pos ha]

/-- R271. -/
theorem nametableFetch_eq (s : State) :
    nametableFetch s =
      if s.rendering then
        { s with ntLatch := mapperReply s (ntAddr s.v), log := .ntRead (ntAddr s.v) (mapperReply s (ntAddr s.v)) :: s.log }
      else { s with ntLatch := 0x00#8 } := by
  rw [nametableFetch, fetch_nametable (ntAddr_nametable s.v)]
  cases s.rendering <;> rfl

/-- R272. -/
theorem attributeFetch_eq (s : State) :
    attributeFetch s =
      if s.rendering then
        { s with
          atLatch := atSelect (mapperReply s (atAddr s.v)) s.v
          log := .ntRead (atAddr s.v) (mapperReply s (atAddr s.v)) :: s.log }
      else { s with atLatch := 0#2 } := by
  rw [attributeFetch, fetch_nametable (atAddr_nametable s.v)]
  cases s.rendering
  · exact congrArg (fun sel => { s with atLatch := sel }) (atSelect_zero s.v)
  · rfl

/-- R274. -/
theorem lowPlaneFetch_eq (s : State) :
    lowPlaneFetch s =
      if s.rendering then
        { s with
          loLatch := mapperReply s (s.planeAddr false)
          log := .patRead (s.planeAddr false) (mapperReply s (s.planeAddr false)) :: s.log }
      else { s with loLatch := 0x00#8 } := by
  rw [lowPlaneFetch, fetch_pattern (bgPatAddr_pattern ..)]
  cases s.rendering <;> rfl

/-- R275. -/
theorem highPlaneFetch_eq (s : State) :
    highPlaneFetch s =
      if s.rendering then
        { s with
          hiLatch := mapperReply s (s.planeAddr true)
          log := .patRead (s.planeAddr true) (mapperReply s (s.planeAddr true)) :: s.log }
      else { s with hiLatch := 0x00#8 } := by
  rw [highPlaneFetch, fetch_pattern (bgPatAddr_pattern ..)]
  cases s.rendering <;> rfl

/-- R276. -/
theorem reloadShift_eq (s : State) :
    reloadShift s = { s with
      bgLo := BitVec.ofNat 16 (256 * s.bgLo.toNat + s.loLatch.toNat)
      bgHi := BitVec.ofNat 16 (256 * s.bgHi.toNat + s.hiLatch.toNat)
      bgAt := BitVec.ofNat 16 (256 * s.bgAt.toNat + s.atLatch.toNat) } := by
  have hat : s.bgAt.extractLsb' 0 8 ++ 0#6 ++ s.atLatch = s.bgAt.extractLsb' 0 8 ++ (0#6 ++ s.atLatch) :=
    BitVec.append_assoc
  rw [reloadShift, hat, lowByte_append_eq_ofNat, lowByte_append_eq_ofNat, lowByte_append_eq_ofNat, zeroBits_append_toNat]

/-- R277 and R295, of the two nametable-side addresses. -/
theorem dummyFetch_nametable {a : VAddr} (ha : ¬ a.toNat < 0x2000) (s : State) :
    dummyFetch a s = if s.rendering then { s with log := .ntRead a (mapperReply s a) :: s.log } else s := by
  rw [dummyFetch, fetch_nametable ha]
  cases s.rendering <;> rfl

/-! ### The next states -/

theorem exec_ntf (s : State) : exec .ntf s = .next (nametableFetch s) := rfl

theorem exec_pntf (s : State) : exec .pntf s = .next (nametableFetch s) := rfl

/-- Settles O31: both meanings are `nametableFetch`. -/
theorem nametableFetchFillsItsLatch : Obligations.NametableFetchFillsItsLatch := by
  unfold Obligations.NametableFetchFillsItsLatch
  intro s
  rw [exec_ntf, exec_pntf, nametableFetch_eq, ntAddr_eq_ofNat]
  exact ⟨rfl, rfl⟩

theorem exec_atf (s : State) : exec .atf s = .next (attributeFetch s) := rfl

theorem exec_patf (s : State) : exec .patf s = .next (attributeFetch s) := rfl

/-- Settles O32: both meanings are `attributeFetch`. -/
theorem attributeFetchSelectsTheQuadrant : Obligations.AttributeFetchSelectsTheQuadrant := by
  unfold Obligations.AttributeFetchSelectsTheQuadrant
  intro s
  rw [exec_atf, exec_patf, attributeFetch_eq, atSelect_eq_ofNat, atAddr_eq_ofNat]
  exact ⟨rfl, rfl⟩

theorem exec_plf (s : State) : exec .plf s = .next (lowPlaneFetch s) := rfl

theorem exec_pplf (s : State) : exec .pplf s = .next (lowPlaneFetch s) := rfl

theorem exec_phf (s : State) : exec .phf s = .next (highPlaneFetch s) := rfl

theorem exec_pphf (s : State) : exec .pphf s = .next (highPlaneFetch s) := rfl

/-- Settles O33: the low plane's meanings are `lowPlaneFetch`, the high plane's are `highPlaneFetch`. -/
theorem planeFetchesFillTheirLatches : Obligations.PlaneFetchesFillTheirLatches := by
  unfold Obligations.PlaneFetchesFillTheirLatches
  intro s
  rw [exec_plf, exec_pplf, exec_phf, exec_pphf, lowPlaneFetch_eq, highPlaneFetch_eq, planeAddr_low, planeAddr_high]
  exact ⟨rfl, rfl, rfl, rfl⟩

theorem exec_reload (s : State) : exec .reload s = .next (reloadShift s) := rfl

theorem exec_preload (s : State) : exec .preload s = .next (reloadShift s) := rfl

/-- Settles O34: both meanings are `reloadShift`, which does not ask for `rendering`. -/
theorem reloadShiftsByEight : Obligations.ReloadShiftsByEight := by
  unfold Obligations.ReloadShiftsByEight
  intro s
  rw [exec_reload, exec_preload, reloadShift_eq]
  exact ⟨rfl, rfl⟩

theorem exec_idlef1 (s : State) : exec .idlef1 s = .next (dummyFetch (ntAddr s.v) s) := rfl

theorem exec_idlef2 (s : State) : exec .idlef2 s = .next (dummyFetch (ntAddr s.v) s) := rfl

theorem exec_sntf (s : State) : exec .sntf s = .next (dummyFetch (ntAddr s.v) s) := rfl

theorem exec_satf (s : State) : exec .satf s = .next (dummyFetch (atAddr s.v) s) := rfl

/-- Settles O35: three meanings fetch at `ntAddr`, SATF at `atAddr`. -/
theorem dummyFetchesOnlyCallTheMapper : Obligations.DummyFetchesOnlyCallTheMapper := by
  unfold Obligations.DummyFetchesOnlyCallTheMapper
  intro s
  rw [exec_idlef1, exec_idlef2, exec_sntf, exec_satf, dummyFetch_nametable (ntAddr_nametable s.v),
    dummyFetch_nametable (atAddr_nametable s.v), ntAddr_eq_ofNat, atAddr_eq_ofNat]
  exact ⟨rfl, rfl, rfl, rfl⟩

end Sys2Proof.Machine
end

section
/-! R270: the raster agent makes at most one mapper call per dot. A fetch is one call at most, nothing else the raster agent
does is one, and no two fetches of the table stand at one dot. -/

namespace Sys2Proof

/-! ### The fetches of a position -/

/-- The memory accesses of R231 step 2b. -/
def isFetch : Instr → Bool
  | .ntf | .atf | .plf | .phf | .pntf | .patf | .pplf | .pphf | .sntf | .satf | .splf _ | .sphf _ | .idlef1 | .idlef2 =>
    true
  | _ => false

/-- The matches of two rows differ on a bit of `lx` under both masks. -/
abbrev DotRow.Excludes (r r' : DotRow) : Prop := r.pattern &&& r'.mask ≠ r'.pattern &&& r.mask

/-- Rows that exclude each other stand at different dots (R112). -/
theorem DotRow.Excludes.not_selected {r r' : DotRow} (h : r.Excludes r') {ly lx : Dot}
    (hr : dotSelects r ly lx = true) : ¬ dotSelects r' ly lx = true := by
  intro hr'
  simp only [dotSelects, Bool.and_eq_true, beq_iff_eq] at hr hr'
  obtain ⟨-, hr⟩ := hr
  obtain ⟨-, hr'⟩ := hr'
  refine h ?_
  rw [← hr, ← hr', BitVec.and_assoc, BitVec.and_assoc, BitVec.and_comm r.mask]

/-- R117, R231 step 2b: the fetches share no dot. -/
theorem dotRowsFetch_exclusive : dotRowsFetch.Pairwise DotRow.Excludes := by decide

/-- Of rows that exclude each other a position selects one at most. -/
theorem selectedOf_length_le_one {rows : List DotRow} (h : rows.Pairwise DotRow.Excludes) (ly lx : Dot) :
    (selectedOf rows ly lx).length ≤ 1 := by
  induction rows with
  | nil => exact Nat.zero_le 1
  | cons r rows ih =>
    obtain ⟨hr, hrows⟩ := List.pairwise_cons.mp h
    by_cases hsel : dotSelects r ly lx = true
    · have hnone : rows.filter (dotSelects · ly lx) = [] :=
        List.filter_eq_nil_iff.mpr fun r' hr' => (hr r' hr').not_selected hsel
      rw [selectedOf, List.filter_cons_of_pos (p := (dotSelects · ly lx)) hsel, hnone]
      exact Nat.le_refl 1
    · rw [selectedOf, List.filter_cons_of_neg (p := (dotSelects · ly lx)) hsel]
      exact ih hrows

/-- Rows that build no fetch select none. -/
theorem selectedOf_countP_isFetch {rows : List DotRow} {lx : Dot} (h : ∀ r ∈ rows, isFetch (r.build lx) = false)
    (ly : Dot) : (selectedOf rows ly lx).countP isFetch = 0 := by
  rw [List.countP_eq_zero]
  intro i hi
  obtain ⟨r, hr, -, rfl⟩ := mem_selectedOf.mp hi
  rw [h r hr]
  exact Bool.false_ne_true

/-- A position selects one fetch at most. -/
theorem decodeDot_countP_isFetch (ly lx : Dot) : (decodeDot ly lx).countP isFetch ≤ 1 := by
  have hparts : decodeDot ly lx =
      selectedOf (dotRowsLineStart ++ dotRowsTransfer) ly lx ++
      (selectedOf dotRowsFetch ly lx ++ selectedOf dotRowsPicture ly lx) := by
    rw [← selectedOf_append, ← selectedOf_append]
    rfl
  have hbefore : ∀ r ∈ dotRowsLineStart ++ dotRowsTransfer, isFetch (r.build lx) = false := by
    simp [dotRowsLineStart, dotRowsTransfer, isFetch]
  have hafter : ∀ r ∈ dotRowsPicture, isFetch (r.build lx) = false := by
    simp [dotRowsPicture, isFetch]
  rw [hparts, List.countP_append, List.countP_append, selectedOf_countP_isFetch hbefore,
    selectedOf_countP_isFetch hafter, Nat.zero_add, Nat.add_zero]
  exact List.countP_le_length.trans (selectedOf_length_le_one dotRowsFetch_exclusive ly lx)

namespace Machine

/-! ### The calls of a micro-operation -/

theorem readEvent_isMapperCall (a : VAddr) (s : State) : Event.isMapperCall (readEvent a s) = true := by
  unfold readEvent
  split <;> rfl

/-- R94: a fetch is one call with rendering enabled, none otherwise. -/
theorem fetch_mapperCalls (a : VAddr) (s : State) :
    (fetch a s).2.mapperCalls = s.mapperCalls + s.rendering.toNat := by
  cases hr : s.rendering
  · rw [fetch_off hr]
    rfl
  · rw [fetch_on hr]
    exact List.countP_cons_of_pos (readEvent_isMapperCall a s)

theorem setVIfRendering_mapperCalls (v : VReg) (s : State) : (setVIfRendering v s).mapperCalls = s.mapperCalls := by
  obtain ⟨-, h⟩ | ⟨-, h⟩ := setVIfRendering_cases v s <;> rw [h]
  rfl

/-- Of the raster agent's micro-operations the fetches make one call with rendering enabled, the others none. -/
theorem exec_mapperCalls {i : Instr} {s s' : State} (hi : isTransaction i = false) (h : exec i s = .next s') :
    s'.mapperCalls = s.mapperCalls + (isFetch i && s.rendering).toNat := by
  cases i
  case r0 | r1 | r2 | r3 | r4 | r5 | r6 | r7 | w0 | w1 | w2 | w3 | w4 | w5a | w5b | w6a | w6b | w7 => cases hi
  case ntf | atf | plf | phf | pntf | patf | pplf | pphf | sntf | satf | splf | sphf | idlef1 | idlef2 =>
    cases h
    exact fetch_mapperCalls _ s
  case incx | pincx | incy | copyh | copyv =>
    cases h
    exact setVIfRendering_mapperCalls _ s
  case syncchk =>
    simp only [exec, execSyncchk] at h
    split at h <;> cases h <;> rfl
  case eval n =>
    obtain h' | ⟨-, h'⟩ | ⟨-, -, -, h'⟩ := execEval_cases n s <;> cases h'.symm.trans h <;> rfl
  case advance => obtain ⟨-, rfl⟩ | ⟨-, -, rfl⟩ | ⟨-, -, rfl⟩ := advance_cases h <;> rfl
  case ls241 | ls261 | prefill | pixel | reload | preload | bankcopy =>
    cases h
    rfl

/-- A run of micro-operations calls the mapper at most once per fetch. -/
theorem runAll_mapperCalls {is : List Instr} {s s' : State} (his : ∀ i ∈ is, isTransaction i = false)
    (h : runAll is s = .next s') :
    s.mapperCalls ≤ s'.mapperCalls ∧ s'.mapperCalls ≤ s.mapperCalls + is.countP isFetch := by
  induction is generalizing s with
  | nil =>
    cases h
    exact ⟨Nat.le_refl _, Nat.le_refl _⟩
  | cons i is ih =>
    obtain ⟨m, hexec, hrest⟩ := runAll_cons_inv h
    obtain ⟨hlow, hhigh⟩ := ih (fun j hj => his j (List.mem_cons_of_mem i hj)) hrest
    have hcall := exec_mapperCalls (his i List.mem_cons_self) hexec
    have hone : (isFetch i && s.rendering).toNat ≤ if isFetch i then 1 else 0 := by
      cases isFetch i <;> cases s.rendering <;> decide
    rw [List.countP_cons]
    omega

/-- Settles O44: the micro-operations of the position run to their end with one fetch among them at most, and the hand-over
is no mapper call. -/
theorem atMostOneMapperCallPerDot : Obligations.AtMostOneMapperCallPerDot := by
  unfold Obligations.AtMostOneMapperCallPerDot
  intro s hgap
  obtain ⟨m, hrun⟩ := runAll_completes (decodeDot s.ly s.lx) s
  have hopen : (openGap m).mapperCalls = m.mapperCalls := congrArg Prod.snd (openGap_vAndMapperCalls m)
  have hfetch := decodeDot_countP_isFetch s.ly s.lx
  obtain ⟨hlow, hhigh⟩ := runAll_mapperCalls (fun _ => isTransaction_of_mem_decodeDot) hrun
  exact ⟨openGap m, (step_dot hgap).trans (dotStep_of_runAll hrun), by omega, by omega⟩

end Machine

end Sys2Proof
end

section
/-! The sprite pattern fetch (spec/46_sprite_fetch.md R290 to R297): the address of a plane of an entry in the arithmetic
form of R292 and R293, and the next states of SPLF and SPHF. -/

namespace Sys2Proof.Machine

/-! ### The plane addresses -/

/-- R291: `flip_v` in numbers. -/
theorem attrFlipV_iff (attr : Byte) : attrFlipV attr = true ↔ attr.toNat / 128 = 1 := by
  have := attr.isLt
  rw [attrFlipV, BitVec.getLsbD, Nat.testBit_eq_decide_div_mod_eq, decide_eq_true_iff]
  omega

/-- R292 and R293: the sprite pattern address is the arithmetic one. -/
theorem sprPatAddr_toNat (s : State) (e : SpriteEntry) (plane : Bool) :
    (sprPatAddr s.spriteSize s.sprPatternSel e plane).toNat = spriteFetchAddr s e plane.toNat := by
  unfold sprPatAddr spriteFetchAddr
  simp only [← attrFlipV_iff]
  cases s.spriteSize
  case false => exact sprPatAddr8_toNat s.sprPatternSel e plane
  case true =>
    refine (sprPatAddr16_toNat e plane).trans ?_
    cases attrFlipV e.attr <;> simp only [if_true, if_false, Bool.false_eq_true] <;> omega

theorem sprPatAddr_eq_ofNat (s : State) (e : SpriteEntry) (plane : Bool) :
    sprPatAddr s.spriteSize s.sprPatternSel e plane = BitVec.ofNat 14 (spriteFetchAddr s e plane.toNat) := by
  rw [← sprPatAddr_toNat, BitVec.ofNat_toNat, BitVec.setWidth_eq]

/-- R292 and R293: bit 13 of the address is 0. -/
theorem sprPatAddr_pattern (spriteSize sel : Bool) (e : SpriteEntry) (plane : Bool) :
    (sprPatAddr spriteSize sel e plane).toNat < 0x2000 := by
  have hplane := Bool.toNat_le plane
  have htile := e.tile.isLt
  have hrow := e.row.isLt
  cases spriteSize
  case false =>
    have hsel := Bool.toNat_le sel
    refine (sprPatAddr8_toNat sel e plane).trans_lt ?_
    split <;> omega
  case true =>
    refine (sprPatAddr16_toNat e plane).trans_lt ?_
    split <;> omega

/-- Settles O37: R292 and R293 evaluated at the sentinel's tile 0xFF, row 0 and attribute 0. -/
theorem sentinelFetchAddressesAreFixed : Obligations.SentinelFetchAddressesAreFixed := by
  unfold Obligations.SentinelFetchAddressesAreFixed
  exact fun sel => ⟨sprPatAddr8_toNat sel SpriteEntry.sentinel false, sprPatAddr8_toNat sel SpriteEntry.sentinel true,
    sprPatAddr16_toNat SpriteEntry.sentinel false, sprPatAddr16_toNat SpriteEntry.sentinel true⟩

/-! ### The next states -/

/-- The address of a plane of the sprite in a slot of `SPR` (R292, R293). -/
def State.sprPlaneAddr (s : State) (slot : BitVec 3) (plane : Bool) : VAddr :=
  sprPatAddr s.spriteSize s.sprPatternSel (sprAt slot s) plane

/-- A fetch at a slot's plane is a call to pattern memory (R74). -/
theorem fetch_sprPlaneAddr (s : State) (slot : BitVec 3) (plane : Bool) :
    fetch (s.sprPlaneAddr slot plane) s =
      if s.rendering then
        (mapperReply s (s.sprPlaneAddr slot plane),
          { s with log := .patRead (s.sprPlaneAddr slot plane) (mapperReply s (s.sprPlaneAddr slot plane)) :: s.log })
      else (0x00#8, s) :=
  fetch_pattern (sprPatAddr_pattern ..) s

/-- R296. -/
theorem exec_splf (slot : BitVec 3) (s : State) :
    exec (.splf slot) s = .next
      (if s.rendering then
        { s with
          spr := s.spr.set slot.toNat { sprAt slot s with lo := mapperReply s (s.sprPlaneAddr slot false) } slot.isLt
          log := .patRead (s.sprPlaneAddr slot false) (mapperReply s (s.sprPlaneAddr slot false)) :: s.log }
      else { s with spr := s.spr.set slot.toNat { sprAt slot s with lo := 0x00#8 } slot.isLt }) := by
  rw [exec, execSplf, ← State.sprPlaneAddr, fetch_sprPlaneAddr]
  cases s.rendering <;> rfl

/-- R297. -/
theorem exec_sphf (slot : BitVec 3) (s : State) :
    exec (.sphf slot) s = .next
      (if s.rendering then
        { s with
          spr := s.spr.set slot.toNat { sprAt slot s with hi := mapperReply s (s.sprPlaneAddr slot true) } slot.isLt
          log := .patRead (s.sprPlaneAddr slot true) (mapperReply s (s.sprPlaneAddr slot true)) :: s.log }
      else { s with spr := s.spr.set slot.toNat { sprAt slot s with hi := 0x00#8 } slot.isLt }) := by
  rw [exec, execSphf, ← State.sprPlaneAddr, fetch_sprPlaneAddr]
  cases s.rendering <;> rfl

/-- Settles O36: the next states of SPLF and SPHF with the address in arithmetic form. -/
theorem spriteFetchesFillTheSlot : Obligations.SpriteFetchesFillTheSlot := by
  unfold Obligations.SpriteFetchesFillTheSlot
  intro s k
  rw [exec_splf, exec_sphf, State.sprPlaneAddr, State.sprPlaneAddr, sprPatAddr_eq_ofNat, sprPatAddr_eq_ofNat]
  exact ⟨rfl, rfl⟩

end Sys2Proof.Machine
end

section
/-! What every step does (spec/60_exceptions.md, spec/70_reset_and_hazards.md): it completes (R340), it only extends the log
(R346), and a reset in a gap yields the reset state (R370). -/

namespace Sys2Proof.Machine

/-- Settles O41: a transaction completes (`exec_completes`), a reset answers its event, and the micro-operations of a
position run to their end (`runAll_completes`). -/
theorem everyStepCompletes : Obligations.EveryStepCompletes := by
  unfold Obligations.EveryStepCompletes
  intro s
  match hgap : s.gap with
  | .transaction word :: rest =>
    rw [step_gap hgap, gapStep_transaction]
    exact exec_completes _ _
  | .reset :: rest => exact ⟨_, (step_gap hgap).trans (gapStep_reset rest s)⟩
  | [] =>
    obtain ⟨m, hrun⟩ := runAll_completes (decodeDot s.ly s.lx) s
    exact ⟨openGap m, (step_dot hgap).trans (dotStep_of_runAll hrun)⟩

/-- Settles O47: the state of `resetEvent`, written out. -/
theorem resetEventYieldsTheResetState : Obligations.ResetEventYieldsTheResetState := by
  unfold Obligations.ResetEventYieldsTheResetState
  intro s rest hgap
  rw [step_gap hgap, gapStep_reset]
  rfl

/-! ### The log -/

theorem fetch_log_suffix (a : VAddr) (s : State) : s.log <:+ (fetch a s).2.log := by
  rw [fetch_log]
  split
  · exact List.suffix_cons _ _
  · exact List.suffix_rfl

theorem setVIfRendering_log (v : VReg) (s : State) : (setVIfRendering v s).log = s.log := by
  obtain ⟨-, h⟩ | ⟨-, h⟩ := setVIfRendering_cases v s <;> rw [h]

/-- R77: a routed write is one call of the mapper, or none. -/
theorem memWrite_log_suffix (a : VAddr) (d : Byte) (s : State) : s.log <:+ (memWrite a d s).log := by
  obtain ⟨-, h⟩ | ⟨-, -, h⟩ | ⟨-, h⟩ := memWrite_cases a d s <;> rw [h]
  · exact List.suffix_cons _ _
  · exact List.suffix_cons _ _

/-- Every instruction keeps the log, or adds the events of its calls and its answer in front. -/
theorem exec_log_suffix {i : Instr} {s s' : State} (h : exec i s = .next s') : s.log <:+ s'.log := by
  cases i
  case ntf | atf | plf | phf | pntf | patf | pplf | pphf | sntf | satf | splf | sphf | idlef1 | idlef2 =>
    cases h
    exact fetch_log_suffix _ s
  case incx | pincx | incy | copyh | copyv =>
    cases h
    exact (setVIfRendering_log _ s).symm ▸ List.suffix_rfl
  case r0 | r1 | r3 | r4 | r5 | r6 | w0 | ls241 | ls261 =>
    cases h
    exact List.suffix_cons _ _
  case r2 =>
    cases h
    exact List.suffix_append [_, _] _
  case r7 =>
    cases (exec_r7 s).symm.trans h
    exact List.suffix_append [_, _] _
  case w7 d =>
    cases h
    exact memWrite_log_suffix _ d (latchWrite d s)
  case syncchk =>
    simp only [exec, execSyncchk] at h
    split at h <;> cases h
    · exact List.suffix_cons _ _
    · exact List.suffix_rfl
    · exact List.suffix_rfl
  case eval n =>
    obtain h' | ⟨-, h'⟩ | ⟨-, -, -, h'⟩ := execEval_cases n s <;> cases h'.symm.trans h <;> exact List.suffix_rfl
  case advance =>
    obtain ⟨-, rfl⟩ | ⟨-, -, rfl⟩ | ⟨-, -, rfl⟩ := advance_cases h
    · exact List.suffix_rfl
    · exact List.suffix_rfl
    · exact List.suffix_append [_, _] _
  case w1 | w2 | w3 | w4 | w5a | w5b | w6a | w6b | prefill | pixel | reload | preload | bankcopy =>
    cases h
    exact List.suffix_rfl

/-- Settles O45: a transaction and a dot step's micro-operations extend the log (`exec_log_suffix`), and the reset event and
the hand-over each add one event. -/
theorem logOnlyGrows : Obligations.LogOnlyGrows := by
  unfold Obligations.LogOnlyGrows
  intro s s' h
  have hsuffix : s.log <:+ s'.log := by
    obtain ⟨word, rest, -, hexec⟩ | ⟨rest, -, rfl⟩ | ⟨m, -, hrun, rfl⟩ := step_cases h
    · exact exec_log_suffix (s := { s with gap := rest }) hexec
    · exact List.suffix_cons _ _
    · have hm : s.log <:+ m.log :=
        runAll_keeps (P := fun t => s.log <:+ t.log) (fun _ _ _ _ ht hexec => ht.trans (exec_log_suffix hexec))
          List.suffix_rfl hrun
      exact hm.trans (List.suffix_cons _ _)
  obtain ⟨new, hnew⟩ := hsuffix
  exact ⟨new, hnew.symm⟩

end Sys2Proof.Machine
end

section
/-! Pixel composition (spec/47_pixel_composition.md R310 to R318): the background value and the pattern of a sprite entry in
numbers, which slot the sprite scan takes, and the next state of PIXEL. -/

namespace Sys2Proof.Machine

/-! ### Bits and planes as numbers -/

theorem ofBool_getLsbD_toNat {n : Nat} (b : BitVec n) (i : Nat) : (BitVec.ofBool (b.getLsbD i)).toNat = bitOf b i := by
  rw [BitVec.toNat_ofBool, BitVec.getLsbD, Nat.toNat_testBit, bitOf]

theorem planeBits_toNat {n : Nat} (hi lo : BitVec n) (i : Nat) :
    (planeBits hi lo i).toNat = 2 * bitOf hi i + bitOf lo i := by
  rw [planeBits, append_toNat, ofBool_getLsbD_toNat, ofBool_getLsbD_toNat, pow_one]

/-- A clip flag acts on columns 0 to 7 (R312, R313). -/
theorem disabledOrClipped_iff (enable clip : Bool) (col : Byte) :
    (!enable || (decide (col.toNat < 8) && clip)) = true ↔ enable = false ∨ (col.toNat < 8 ∧ clip = true) := by
  simp only [Bool.or_eq_true, Bool.not_eq_true', Bool.and_eq_true, decide_eq_true_eq]

/-! ### The background -/

theorem bgPos_eq (x : BitVec 3) (col : Byte) : bgPos x col = x.toNat + col.toNat % 8 := by
  rw [bgPos, lowThreeBits_toNat]

/-- R311: the value is transparent where both plane bits are 0, else the palette bits of the tile above the two. -/
theorem bgSelect_toNat (s : State) (col : Byte) :
    (bgSelect s col).toNat =
      let pos := s.x.toNat + col.toNat % 8
      let p := 2 * bitOf s.bgHi (15 - pos) + bitOf s.bgLo (15 - pos)
      if p = 0 then 0 else 4 * (if pos < 8 then s.bgAt.toNat / 256 % 4 else s.bgAt.toNat % 4) + p := by
  simp only [bgSelect, bgPos_eq, ← BitVec.toNat_inj, apply_ite BitVec.toNat, append_toNat, planeBits_toNat,
    extract_toNat, BitVec.toNat_zero, Nat.reducePow, Nat.div_one]

/-- Settles O38: R312's mask before the selection of R311 in numbers. -/
theorem backgroundPixelIsTheSelectedBit : Obligations.BackgroundPixelIsTheSelectedBit := by
  unfold Obligations.BackgroundPixelIsTheSelectedBit
  intro s col pos p a
  simp only [bgPixel, disabledOrClipped_iff]
  by_cases hmask : s.bgEnable = false ∨ (col.toNat < 8 ∧ s.bgEdgeClip = true)
  · rw [if_pos hmask, if_pos (or_assoc.mp (.inl hmask))]
    rfl
  · rw [if_neg hmask, bgSelect_toNat]
    simp only [← or_assoc, hmask, false_or, pos, p, a]

/-! ### The sprite entries -/

theorem attrFlipH_iff (attr : Byte) : attrFlipH attr = true ↔ attr.toNat / 64 % 2 = 1 := by
  rw [attrFlipH, BitVec.getLsbD, Nat.testBit_eq_decide_div_mod_eq, decide_eq_true_iff]

/-- R314: the pattern of an entry in numbers. -/
theorem spritePattern_toNat (e : SpriteEntry) (col : Byte) : (spritePattern e col).toNat = entryPatternOf e col.toNat := by
  unfold spritePattern entryPatternOf
  have hcond : (e.id = 64#7 ∨ (col.toNat : Int) - e.x.toNat < 0 ∨ 8 ≤ (col.toNat : Int) - e.x.toNat) ↔
      (e.id.toNat = 64 ∨ col.toNat < e.x.toNat ∨ e.x.toNat + 8 ≤ col.toNat) := by
    rw [← BitVec.toNat_inj]
    exact or_congr Iff.rfl (by omega)
  have hoff : ((col.toNat : Int) - e.x.toNat).toNat = col.toNat - e.x.toNat := by omega
  simp only [hcond, hoff, attrFlipH_iff]
  split
  · rfl
  · exact planeBits_toNat ..

/-- An entry shows nothing at a column where its pattern is 0 (R314). -/
theorem spritePattern_eq_zero_iff (e : SpriteEntry) (col : Byte) :
    spritePattern e col = 0#2 ↔ entryPatternOf e col.toNat = 0 := by
  rw [← BitVec.toNat_inj, spritePattern_toNat, BitVec.toNat_zero]

/-- R315: what an opaque entry shows. -/
def SpriteEntry.pixelAt (e : SpriteEntry) (col : Byte) : SpritePixel :=
  { sp := 1#1 ++ attrPalette e.attr ++ spritePattern e col, front := !attrBehind e.attr, zero := e.id == 0#7 }

theorem sprScanStep_transparent {e : SpriteEntry} {col : Byte} (h : spritePattern e col = 0#2) (acc : SpritePixel) :
    sprScanStep col e acc = acc := if_pos h

theorem sprScanStep_opaque {e : SpriteEntry} {col : Byte} (h : spritePattern e col ≠ 0#2) (acc : SpritePixel) :
    sprScanStep col e acc = e.pixelAt col := if_neg h

/-- R315 in numbers. -/
theorem pixelAt_eq (e : SpriteEntry) (col : Byte) :
    e.pixelAt col =
      { sp := BitVec.ofNat 5 (16 + 4 * (e.attr.toNat % 4) + entryPatternOf e col.toNat),
        front := decide (e.attr.toNat / 32 % 2 = 0), zero := decide (e.id.toNat = 0) } := by
  have hsp : (1#1 ++ attrPalette e.attr ++ spritePattern e col : BitVec 5) =
      BitVec.ofNat 5 (16 + 4 * (e.attr.toNat % 4) + entryPatternOf e col.toNat) := by
    rw [← spritePattern_toNat]
    have := (spritePattern e col).isLt
    apply BitVec.eq_of_toNat_eq
    simp only [append_toNat, attrPalette, extract_toNat, BitVec.toNat_ofNat]
    omega
  have hfront : (!attrBehind e.attr) = decide (e.attr.toNat / 32 % 2 = 0) := by
    rw [attrBehind, BitVec.getLsbD, Nat.testBit_eq_decide_div_mod_eq, ← decide_not, decide_eq_decide]
    omega
  have hzero : (e.id == 0#7) = decide (e.id.toNat = 0) := by
    rw [beq_eq_decide, decide_eq_decide, ← BitVec.toNat_inj]
    rfl
  rw [SpriteEntry.pixelAt, hsp, hfront, hzero]

/-! ### The scan -/

/-- R314: a scan over entries that show nothing keeps what it had. -/
theorem foldr_sprScanStep_transparent {entries : List SpriteEntry} {col : Byte}
    (h : ∀ e ∈ entries, spritePattern e col = 0#2) (acc : SpritePixel) :
    entries.foldr (sprScanStep col) acc = acc := by
  induction entries with
  | nil => rfl
  | cons e entries ih =>
    obtain ⟨he, hrest⟩ := List.forall_mem_cons.mp h
    rw [List.foldr_cons, ih hrest, sprScanStep_transparent he]

/-- R314: behind entries that show nothing the scan ends with the first opaque one, whatever stands after it. -/
theorem foldr_sprScanStep_firstOpaque {front back : List SpriteEntry} {e : SpriteEntry} {col : Byte}
    (hfront : ∀ e' ∈ front, spritePattern e' col = 0#2) (he : spritePattern e col ≠ 0#2) (acc : SpritePixel) :
    (front ++ e :: back).foldr (sprScanStep col) acc = e.pixelAt col := by
  rw [List.foldr_append, foldr_sprScanStep_transparent hfront, List.foldr_cons, sprScanStep_opaque he]

theorem sprScan_transparent {spr : SpriteBank} {col : Byte} (h : ∀ i : Fin 8, spritePattern spr[i] col = 0#2) :
    sprScan spr col = SpritePixel.none := by
  refine foldr_sprScanStep_transparent (fun e he => ?_) _
  obtain ⟨i, hi, rfl⟩ := Vector.getElem_of_mem (Vector.mem_toList_iff.mp he)
  exact h ⟨i, hi⟩

theorem sprScan_lowestOpaque {spr : SpriteBank} {col : Byte} {i : Fin 8} (hi : spritePattern spr[i] col ≠ 0#2)
    (hbelow : ∀ j : Fin 8, j < i → spritePattern spr[j] col = 0#2) : sprScan spr col = (spr[i]).pixelAt col := by
  have hsplit : spr.toList = spr.toList.take i ++ spr[i] :: spr.toList.drop (i + 1) := by
    have hlen : (i : Nat) < spr.toList.length := by simp
    calc
      spr.toList = spr.toList.take i ++ spr.toList.drop i := (List.take_append_drop _ _).symm
      _ = spr.toList.take i ++ spr[i] :: spr.toList.drop (i + 1) := by
        rw [List.drop_eq_getElem_cons hlen, Vector.getElem_toList, Fin.getElem_fin]
  have hfront : ∀ e ∈ spr.toList.take i, spritePattern e col = 0#2 := by
    intro e he
    obtain ⟨j, hj, rfl⟩ := List.mem_take_iff_getElem.mp he
    rw [Vector.getElem_toList]
    have hji : j < i := by omega
    exact hbelow ⟨j, hji.trans i.isLt⟩ hji
  rw [sprScan, hsplit]
  exact foldr_sprScanStep_firstOpaque hfront hi _

/-- Settles O39: R313's mask before the scan, which takes the lowest opaque slot. -/
theorem lowestOpaqueSlotWins : Obligations.LowestOpaqueSlotWins := by
  unfold Obligations.LowestOpaqueSlotWins
  intro s col
  simp only [← spritePattern_eq_zero_iff, ne_eq, ← pixelAt_eq]
  refine ⟨fun hmask => if_pos ((disabledOrClipped_iff ..).mpr hmask), fun henable hclip => ?_⟩
  have hscan : sprPixel s col = sprScan s.spr col :=
    if_neg fun hmask => ((disabledOrClipped_iff ..).mp hmask).elim (by simp [henable]) hclip
  rw [hscan]
  exact ⟨sprScan_transparent, fun _ => sprScan_lowestOpaque⟩

/-! ### PIXEL -/

/-- R316: the hit flag's condition. -/
theorem zeroHits_eq (sp : BitVec 5) (zero : Bool) (bg : BitVec 4) :
    zeroHits sp zero bg = decide (sp ≠ 0#5 ∧ zero = true ∧ bg ≠ 0#4) := by
  rw [zeroHits, Bool.eq_iff_iff]
  simp only [Bool.and_eq_true, bne_iff_ne, decide_eq_true_eq, and_assoc]

/-- R317 as the chain of its rule: disabled, no sprite, no background, priority. -/
theorem pixelOut_eq (s : State) (bg : BitVec 4) (q : SpritePixel) :
    pixelOut s.rendering bg q =
      if s.bgEnable = false ∧ s.sprEnable = false then 0#5
      else if q.sp = 0#5 then bg.setWidth 5
      else if bg = 0#4 then q.sp
      else if q.front = true then q.sp
      else bg.setWidth 5 := by
  have hoff : (!s.rendering) = true ↔ s.bgEnable = false ∧ s.sprEnable = false := by
    simp [State.rendering]
  simp only [pixelOut, hoff]
  by_cases hsp : q.sp = 0#5
  · simp [hsp]
  · by_cases hbg : bg = 0#4
    · simp [hsp, hbg]
    · simp [hsp, hbg]

/-- R318 in numbers. -/
theorem pixelValue_eq_ofNat (emphasis : BitVec 3) (colour : Byte) :
    pixelValue emphasis colour = BitVec.ofNat 9 (64 * emphasis.toNat + colour.toNat % 64) := by
  apply BitVec.eq_of_toNat_eq
  have := emphasis.isLt
  rw [pixelValue, append_toNat, extract_toNat, BitVec.toNat_ofNat]
  omega

/-- Settles O40: the frame buffer after PIXEL is one `Memory.write`, whose cell, value and flag are those of the rules. -/
theorem pixelWritesOneFrameBufferCell : Obligations.PixelWritesOneFrameBufferCell := by
  unfold Obligations.PixelWritesOneFrameBufferCell
  intro s col hwf bg q out
  have hout : pixelOut s.rendering bg q = out := pixelOut_eq s bg q
  refine ⟨Memory.write s.fb (fbKey s.ly col) (pixelValue s.emphasis (palRead out s)), ?next, Memory.wf_write hwf _ _,
    fun k => ?read⟩
  case next =>
    rw [← hout, ← zeroHits_eq]
    rfl
  case read => rw [Memory.read_write hwf, pixelValue_eq_ofNat, palRead_eq_paletteColourOf, fbKey]

end Sys2Proof.Machine
end
